-- ==== Sys2Proof/Word.lean ====
section
/-! DEFINITION. The widths of the spec (00_scope.md R8, R9): bytes, byte strings, u16 tags and u32 words. -/

namespace Sys2Proof

/-- A u8 (R8). -/
abbrev Byte := BitVec 8

/-- A u16: topic tags and message tags (R8, R70). -/
abbrev U16 := BitVec 16

/-- A u32: the preamble, the checksum, the status word, the command word (R8, R74). -/
abbrev U32 := BitVec 32

/-- A finite sequence of u8 (R9); `|B|` is its length. -/
abbrev ByteString := List Byte

end Sys2Proof
end

