-- ==== Sys2Proof/Syntax.lean ====
section
/-! DEFINITION. The commands of the block, one constructor per row of spec/opcode_table.json (30_encoding.md R78). -/

namespace Sys2Proof

/-- A decoded command (R78). Only the immediate is part of it: DATA and CAP travel beside the word (R74, R80) and
stand in the command port of the state. -/
inductive Instr where
  /-- CRC32 (40_codec.md R103) -/
  | crc32
  /-- GENERATE with its message tag (40_codec.md R105) -/
  | generate (tag : U16)
  /-- PARSE (40_codec.md R110) -/
  | parse
  /-- ADD_MESSAGE with its message tag (41_queue.md R130) -/
  | addMessage (tag : U16)
  /-- NEXT_FRAME (41_queue.md R133) -/
  | nextFrame
  /-- CURRENT_FRAME (41_queue.md R136) -/
  | currentFrame
  /-- POLL (42_arbiter.md R150) -/
  | poll
  /-- SEND_ACK (42_arbiter.md R155) -/
  | sendAck
  /-- SEND_NACK (42_arbiter.md R156) -/
  | sendNack
  /-- ACK_RECEIVED (42_arbiter.md R160) -/
  | ackReceived
  /-- NACK_RECEIVED (42_arbiter.md R163) -/
  | nackReceived
  /-- ACK_TIMEOUT (42_arbiter.md R167) -/
  | ackTimeout
  /-- BEGIN_PASS (43_session.md R180) -/
  | beginPass
  /-- BEGIN_FILE_TRANSFER (43_session.md R182) -/
  | beginFileTransfer
  /-- CEASE_TRANSMISSION (43_session.md R184) -/
  | ceaseTransmission
  /-- RESUME_TRANSMISSION (43_session.md R186) -/
  | resumeTransmission
  /-- SUSPEND_ELAPSED (43_session.md R188) -/
  | suspendElapsed
  /-- PASS_ELAPSED (43_session.md R190) -/
  | passElapsed
  /-- RESET_SAT (43_session.md R193) -/
  | resetSat
  /-- READ_STATUS (43_session.md R196) -/
  | readStatus
deriving DecidableEq, Repr

end Sys2Proof
end

