-- ==== Sys2Proof/WellFormed.lean ====
section
/-! DEFINITION. What is well formed: a command (by its type), and a command word (30_encoding.md R74, R79), the three
checks of R79 said as arithmetic on the word's value, apart from the decoder. -/

namespace Sys2Proof

/-- Every term of `Instr` is well formed: the one operand, a message tag, is a u16 of any value by its type
(R80, R105 "TAG = 0x0000 and TAG = 0xFFFF are legal tags like any other"). -/
def Instr.wellFormed : Instr → Bool
  | .crc32 | .generate _ | .parse | .addMessage _ | .nextFrame | .currentFrame | .poll | .sendAck | .sendNack
  | .ackReceived | .nackReceived | .ackTimeout | .beginPass | .beginFileTransfer | .ceaseTransmission
  | .resumeTransmission | .suspendElapsed | .passElapsed | .resetSat | .readStatus => true

namespace CommandWord

/-- The opcodes of the map of R78, as R79's pseudocode lists them. -/
def opcodes : List Nat :=
  [0x01, 0x02, 0x03, 0x10, 0x11, 0x12, 0x20, 0x21, 0x22, 0x30, 0x31, 0x32,
   0x40, 0x41, 0x42, 0x43, 0x44, 0x45, 0x46, 0x50]

/-- R79 check 1: OPC, bits 31:24, is in the table. -/
def opcodeKnown (w : U32) : Bool := opcodes.contains (w.toNat / 2 ^ 24)

/-- R79 check 2: RSV, bits 23:16, is 0. -/
def reservedZero (w : U32) : Bool := w.toNat / 2 ^ 16 % 2 ^ 8 == 0

/-- R79 check 3: a command other than GENERATE and ADD_MESSAGE has IMM, bits 15:0, equal to 0. -/
def immediateLegal (w : U32) : Bool :=
  [0x02, 0x10].contains (w.toNat / 2 ^ 24) || w.toNat % 2 ^ 16 == 0

/-- A legal command word (R79). -/
def legal (w : U32) : Bool := opcodeKnown w && reservedZero w && immediateLegal w

end CommandWord

end Sys2Proof
end

