-- ==== Sys2Proof/Decode.lean ====
section
/-! DEFINITION. The decoder of command words (30_encoding.md R74, R78, R79), total, rejecting by name, and after it
the encoder (R78, R82). -/

namespace Sys2Proof

/-- OPC: bits 31:24 (R74). -/
def opcField (w : U32) : BitVec 8 := w.extractLsb' 24 8

/-- RSV: bits 23:16 (R74). -/
def rsvField (w : U32) : BitVec 8 := w.extractLsb' 16 8

/-- IMM: bits 15:0 (R74). -/
def immField (w : U32) : U16 := w.extractLsb' 0 16

/-- Why a word is illegal, in the order of R79's checks. Each is answered with ILLEGAL_COMMAND. -/
inductive DecodeError where
  /-- check 1: OPC is not in the table of R78 -/
  | unknownOpcode
  /-- check 2: RSV is not 0 -/
  | reservedNonzero
  /-- check 3: the command takes no IMM and IMM is not 0 -/
  | immediateNonzero
deriving DecidableEq, Repr

/-- The opcode map (R78): the command an OPC selects, with TAG = IMM for the two that take one (R80). -/
def commandOf (opc : BitVec 8) (imm : U16) : Option Instr :=
  match opc with
  | 0x01#8 => some .crc32
  | 0x02#8 => some (.generate imm)
  | 0x03#8 => some .parse
  | 0x10#8 => some (.addMessage imm)
  | 0x11#8 => some .nextFrame
  | 0x12#8 => some .currentFrame
  | 0x20#8 => some .poll
  | 0x21#8 => some .sendAck
  | 0x22#8 => some .sendNack
  | 0x30#8 => some .ackReceived
  | 0x31#8 => some .nackReceived
  | 0x32#8 => some .ackTimeout
  | 0x40#8 => some .beginPass
  | 0x41#8 => some .beginFileTransfer
  | 0x42#8 => some .ceaseTransmission
  | 0x43#8 => some .resumeTransmission
  | 0x44#8 => some .suspendElapsed
  | 0x45#8 => some .passElapsed
  | 0x46#8 => some .resetSat
  | 0x50#8 => some .readStatus
  | _ => none

/-- Whether a command takes the immediate (R77). -/
def Instr.takesTag : Instr → Bool
  | .generate _ | .addMessage _ => true
  | .crc32 | .parse | .nextFrame | .currentFrame | .poll | .sendAck | .sendNack
  | .ackReceived | .nackReceived | .ackTimeout | .beginPass | .beginFileTransfer | .ceaseTransmission
  | .resumeTransmission | .suspendElapsed | .passElapsed | .resetSat | .readStatus => false

/-- The decoder of R79, its three checks in R79's order. -/
def decode (w : U32) : Except DecodeError Instr :=
  match commandOf (opcField w) (immField w) with
  | none => .error .unknownOpcode
  | some i =>
    if rsvField w ≠ 0#8 then .error .reservedNonzero
    else if i.takesTag = false ∧ immField w ≠ 0#16 then .error .immediateNonzero
    else .ok i

/-- The OPC of a command (R78). -/
def Instr.opcode : Instr → BitVec 8
  | .crc32 => 0x01#8
  | .generate _ => 0x02#8
  | .parse => 0x03#8
  | .addMessage _ => 0x10#8
  | .nextFrame => 0x11#8
  | .currentFrame => 0x12#8
  | .poll => 0x20#8
  | .sendAck => 0x21#8
  | .sendNack => 0x22#8
  | .ackReceived => 0x30#8
  | .nackReceived => 0x31#8
  | .ackTimeout => 0x32#8
  | .beginPass => 0x40#8
  | .beginFileTransfer => 0x41#8
  | .ceaseTransmission => 0x42#8
  | .resumeTransmission => 0x43#8
  | .suspendElapsed => 0x44#8
  | .passElapsed => 0x45#8
  | .resetSat => 0x46#8
  | .readStatus => 0x50#8

/-- The IMM of a command: its tag, or 0 (R77, R80). -/
def Instr.immediate : Instr → U16
  | .generate tag => tag
  | .addMessage tag => tag
  | .crc32 | .parse | .nextFrame | .currentFrame | .poll | .sendAck | .sendNack
  | .ackReceived | .nackReceived | .ackTimeout | .beginPass | .beginFileTransfer | .ceaseTransmission
  | .resumeTransmission | .suspendElapsed | .passElapsed | .resetSat | .readStatus => 0#16

/-- The word a command assembles to: OPC in bits 31:24, zeros in bits 23:16 and the tag in bits 15:0 (R82). -/
def encode (i : Instr) : U32 := i.opcode ++ 0#8 ++ i.immediate

/-- The instruction the decoder reads from a word numbered as spec/opcode_table.json numbers it. A command is one
32-bit word with no byte order of its own (R55, R74), so the number is the word; a table that gives fewer bits leaves
the higher ones 0. -/
def decodeTableWord (nbits w : Nat) : Option Instr :=
  if nbits ≤ 32 ∧ w < 2 ^ 32 then
    match decode (BitVec.ofNat 32 w) with
    | .ok i => some i
    | .error _ => none
  else none

end Sys2Proof
end

