-- ==== Sys2Proof/Config.lean ====
section
/-! DEFINITION. The implementation parameters of 00_scope.md R6 with their constraints (R7), the example
configuration E0 of 95_test_vectors.md, and the host services that the uplink procedure of 60_exceptions.md R228
calls. What this implementation uses, `Config.chosen` and `HostServices.chosen`, has no body (log 3, log 9). -/

namespace Sys2Proof

/-- The configuration record (R6). The proof fields are R6's constraints, so an instance outside them cannot be
built: R7's "refused at configuration time". The defaults only show that the type is inhabited (the smallest values
the constraints admit); `Config.chosen` is not known to equal them. -/
structure Config where
  /-- PREAMBLE: the magic value at frame start -/
  preamble : U32 := 0
  /-- MAX_FRAME_SIZE: ceiling on payload bytes per frame -/
  maxFrameSize : Nat := 1
  /-- QUEUE_DEPTH: maximum number of waiting messages -/
  queueDepth : Nat := 1
  /-- MSG_STORE_BYTES: byte capacity of the message store -/
  msgStoreBytes : Nat := 0
  /-- RETRY_MAX: the retry ceiling -/
  retryMax : Nat := 0
  /-- TOPIC_OF: a total function of the tag alone (40_codec.md R106) -/
  topicOf : U16 → U16 := id
  /-- ACK_TAG -/
  ackTag : U16 := 0
  /-- ACK_BODY -/
  ackBody : ByteString := []
  /-- NACK_TAG -/
  nackTag : U16 := 0
  /-- NACK_BODY -/
  nackBody : ByteString := []
  maxFrameSize_pos : 1 ≤ maxFrameSize := by decide
  maxFrameSize_le : maxFrameSize ≤ 65535 := by decide
  queueDepth_pos : 1 ≤ queueDepth := by decide
  queueDepth_le : queueDepth ≤ 255 := by decide
  retryMax_le : retryMax ≤ 254 := by decide
  ackBody_le : ackBody.length ≤ maxFrameSize := by decide
  nackBody_le : nackBody.length ≤ maxFrameSize := by decide
deriving Inhabited

/-- The configuration fixed before reset is released (70_reset_and_hazards.md R243): any that meets R6. -/
opaque Config.chosen : Config

/-- E0 of 95_test_vectors.md section 0: the configuration of the spec's vectors, "not a claim about the
satellite" (R6). Only tests use it. -/
def Config.e0 : Config where
  preamble := 0x52534B31#32
  maxFrameSize := 100
  queueDepth := 4
  msgStoreBytes := 1024
  retryMax := 3
  topicOf t := (t.extractLsb' 8 8).setWidth 16
  ackTag := 0x0101#16
  ackBody := [0x00#8]
  nackTag := 0x0102#16
  nackBody := [0x00#8]

/-- The telecommand variants of 60_exceptions.md R228, with the fields the spec names. The block uses no field:
the host hands them on (R228; D52). -/
inductive Telecommand where
  /-- Ack with its code -/
  | ack (code : Nat)
  /-- Nack with its code -/
  | nack (code : Nat)
  /-- BeginPass with its length -/
  | beginPass (len : Nat)
  /-- BeginFileTransfer -/
  | beginFileTransfer
  /-- CeaseTransmission with its duration -/
  | ceaseTransmission (dur : Nat)
  /-- ResumeTransmission -/
  | resumeTransmission
  /-- UpdateTime with its epoch -/
  | updateTime (epoch : Nat)
  /-- Reset with the target device and the hard flag -/
  | reset (targetDevice : Nat) (hard : Bool)
deriving DecidableEq, Repr, Inhabited

/-- The external collaborators of the uplink procedure (R228): outside the block, their behaviour left to the host
(00_scope.md R5; I10, I11). -/
structure HostServices where
  /-- whether confidentiality is in use -/
  confidential : Bool
  /-- the crypto collaborator's decryption, `none` when it fails -/
  decrypt : ByteString → Option ByteString
  /-- the dispatcher's table: `none` for a tag that is not recognised, else the external serializer's decoder of the
  variant that the tag selects ("every well-formed envelope maps to exactly one variant or an explicit error") -/
  variantOf : U16 → Option (ByteString → Telecommand)
deriving Inhabited

/-- The host services of this system, with no body: a claim holds whatever they are (log 9). -/
opaque HostServices.chosen : HostServices

end Sys2Proof
end

