-- ==== Sys2Proof/Machine/State.lean ====
section
/-! DEFINITION. The machine's state as plain data: the block's state S (10_state.md R20 to R31), the command port
with its response record (30_encoding.md R74 to R76), and the host side that issues commands (60_exceptions.md R225),
with the reset state (70_reset_and_hazards.md R240) and the reasons a step can stop. -/

namespace Sys2Proof.Machine

/-- The session lifecycle state, S.state (R23). The four 2-bit values are all legal. -/
inductive Lifecycle where
  /-- no ground contact -/
  | idle
  /-- uplink and downlink of control messages -/
  | activePass
  /-- streaming queued payloads -/
  | fileTransferActive
  /-- transmission paused by ground command -/
  | suspended
deriving DecidableEq, Repr

/-- The previous active state that a suspension returns to, S.prev (R24). -/
inductive PrevActive where
  /-- 0: ACTIVE_PASS -/
  | activePass
  /-- 1: FILE_TRANSFER_ACTIVE -/
  | fileTransferActive
deriving DecidableEq, Repr

/-- The kind of a control response, S.ctrl_kind (R27). -/
inductive CtrlKind where
  /-- 0: an Ack -/
  | ack
  /-- 1: a Nack -/
  | nack
deriving DecidableEq, Repr

/-- The arbiter phase, S.phase (R28, R29). The fourth 2-bit value is never stored; it is excluded by type (I18). -/
inductive Phase where
  /-- the next file-transfer POLL takes a new frame -/
  | ready
  /-- a frame was sent; a file-transfer POLL emits nothing -/
  | await
  /-- the next file-transfer POLL re-emits the retained frame -/
  | resend
deriving DecidableEq, Repr

/-- An entry of the Outbound Queue (R30). -/
structure Message where
  /-- its message tag -/
  tag : U16
  /-- its byte payload, of arbitrary length -/
  body : ByteString
deriving DecidableEq, Repr

/-- The block's state S: exactly the fields of R23 to R31. -/
structure Block where
  /-- S.state (R23) -/
  state : Lifecycle
  /-- S.prev (R24) -/
  prev : PrevActive
  /-- S.halted (R25) -/
  halted : Bool
  /-- S.retry (R26) -/
  retry : BitVec 8
  /-- S.ctrl_valid (R27) -/
  ctrlValid : Bool
  /-- S.ctrl_kind (R27) -/
  ctrlKind : CtrlKind
  /-- S.phase (R28) -/
  phase : Phase
  /-- S.queue, head first (R30) -/
  queue : List Message
  /-- S.cur_valid (R31) -/
  curValid : Bool
  /-- S.cur_tag (R31) -/
  curTag : U16
  /-- S.cur_body (R31) -/
  curBody : ByteString
  /-- S.cur_off (R31) -/
  curOff : Nat
  /-- S.ret_valid (R31) -/
  retValid : Bool
  /-- S.ret_frame (R31) -/
  retFrame : ByteString
deriving DecidableEq, Repr

/-- S after block reset (R240). -/
def Block.reset : Block where
  state := .idle
  prev := .activePass
  halted := false
  retry := 0#8
  ctrlValid := false
  ctrlKind := .ack
  phase := .ready
  queue := []
  curValid := false
  curTag := 0#16
  curBody := []
  curOff := 0
  retValid := false
  retFrame := []

/-- The status codes of R76. Codes 0x0D to 0xFF are never produced (I15): they have no constructor. -/
inductive Status where
  /-- success -/
  | ok
  /-- nothing to send -/
  | empty
  /-- PARSE: short input or wrong preamble -/
  | malformedHeader
  /-- PARSE: stored checksum differs from the payload's -/
  | checksumMismatch
  /-- never produced by the block; the host's crypto step (60_exceptions.md R216) -/
  | decryptFailed
  /-- never produced by the block; the host's dispatcher (R216) -/
  | unknownMessageTag
  /-- input or output does not fit a buffer -/
  | bufferTooSmall
  /-- ADD_MESSAGE: no slot or no store bytes -/
  | queueFull
  /-- NACK_RECEIVED and ACK_TIMEOUT beyond the ceiling; the one status with a state change besides OK (R217) -/
  | retryExhausted
  /-- a required DATA or CAP is `none` -/
  | nullInput
  /-- GENERATE: body or frame too long -/
  | encodeError
  /-- an event not valid in the current state -/
  | ignored
  /-- the decoder: an illegal command word -/
  | illegalCommand
deriving DecidableEq, Repr

/-- The response record (R75). -/
structure Response where
  /-- status -/
  status : Status
  /-- out: a fresh byte string -/
  out : ByteString
  /-- topic -/
  topic : U16
  /-- tag -/
  tag : U16
  /-- value -/
  value : U32
deriving DecidableEq, Repr

/-- A response with every field a command does not output at its default: [] and 0 (R75, R10). -/
def Response.of (status : Status) : Response where
  status := status
  out := []
  topic := 0#16
  tag := 0#16
  value := 0#32

/-- One command as a host agent issues it: the word and its two operands (R74). `none` is the source's null. -/
structure Request where
  /-- cmd, the 32-bit command word -/
  word : U32
  /-- DATA -/
  data : Option ByteString
  /-- CAP -/
  cap : Option Nat
deriving DecidableEq, Repr

/-- The command port: the command being executed and the response to it (R10, R74, R75). -/
structure Port where
  /-- cmd -/
  word : U32
  /-- DATA -/
  data : Option ByteString
  /-- CAP -/
  cap : Option Nat
  /-- the response record of the last command -/
  response : Response
deriving DecidableEq, Repr

/-- The host agents (60_exceptions.md R225). The block gives them no identifiers (R220): the name is the host's, and
says to whom a response returns. -/
inductive Agent where
  /-- the receive task -/
  | rx
  /-- the transmit task -/
  | tx
  /-- the watchdog and timer task -/
  | timer
  /-- one of any number of producers -/
  | producer (n : Nat)
deriving DecidableEq, Repr

/-- What can happen next at the block's boundary (R225, R228, R241). -/
inductive HostEvent where
  /-- an agent issues a command -/
  | command (agent : Agent) (req : Request)
  /-- the transport hands RX a received byte string -/
  | receive (bytes : ByteString)
  /-- RX is scheduled to go on with the uplink procedure (R228) -/
  | rxTurn
  /-- the external reboot mechanism applies a block reset (R241) -/
  | reset
deriving DecidableEq, Repr

/-- What RX hands to other parts of the host while it carries out R228; the block sees none of it. -/
inductive HostAction where
  /-- arm the pass deadline now + len on TIMER -/
  | armPassDeadline (len : Nat)
  /-- arm suspend-until now + dur on TIMER -/
  | armSuspend (dur : Nat)
  /-- disarm suspend-until -/
  | disarmSuspend
  /-- set the satellite clock (43_session.md R198) -/
  | setClock (epoch : Nat)
  /-- hand over to the external reset mechanism (43_session.md R193) -/
  | externalReset (targetDevice : Nat) (hard : Bool)
deriving DecidableEq, Repr

/-- The host side: the agents of R225 as data. The model's own fields, not part of S (R20). -/
structure HostSide where
  /-- the linearised order of what is still to happen, next first (20_memory.md R59) -/
  schedule : List HostEvent
  /-- every response so far with the agent it returned to, newest first (70_reset_and_hazards.md R244) -/
  responses : List (Agent × Response)
  /-- the byte strings TX has transmitted, newest first (R226) -/
  transmitted : List ByteString
  /-- received byte strings RX has not taken up yet, oldest first (R228) -/
  rxInbox : List ByteString
  /-- PARSE's response while RX is between its two commands (R228, R250) -/
  rxReply : Option Response
  /-- what the uplink procedure returned, newest first (R228) -/
  uplinkResults : List (Status × Option U16)
  /-- what RX has handed on, newest first (R228) -/
  delegated : List HostAction
deriving DecidableEq, Repr

/-- The whole machine. -/
structure State where
  /-- S (10_state.md R20) -/
  block : Block
  /-- the command port -/
  port : Port
  /-- the host side -/
  host : HostSide
deriving DecidableEq, Repr

/-- After reset: S as R240 says. The port is clear and the host has issued nothing: the spec gives those no reset
value (DESIGN CHOICE, log 5). -/
def State.reset : State where
  block := Block.reset
  port := { word := 0#32, data := none, cap := none, response := Response.of .ok }
  host :=
    { schedule := [], responses := [], transmitted := [], rxInbox := [], rxReply := none, uplinkResults := [],
      delegated := [] }

/-- No step of this machine faults: "The block never traps" (60_exceptions.md R210), and I-table treatments "fault"
and "stuck" are not used (93_implementation_defined.md). So the type has no constructor, which is safe (log 14). -/
inductive Fault where
deriving DecidableEq, Repr

/-- The reasons exec can refuse an instruction. -/
inductive Refusal where
  /-- Raised by exec's arm for an instruction that has no meaning yet. Safe: nothing is claimed about it. No arm
  raises it in this model. -/
  | notModelled (mnemonic : String)
deriving DecidableEq, Repr

end Sys2Proof.Machine
end

