-- ==== Sys2Proof/Machine/Ops.lean ====
section
/-! DEFINITION. The operations the commands share: byte order and slices (00_scope.md R9), the checksum
(40_codec.md R100), WRAP (R11), the ways a command ends (R10), ENGINE_NEXT (41_queue.md R134), control frames
(42_arbiter.md R157), RETRY_STEP and EXHAUST (R164, R165). The block never traps (60_exceptions.md R210): what stands
here in an exception entry's place is `fail`, which answers a status and changes nothing, and there is no return from
it (R215). -/

namespace Sys2Proof.Machine

/-! ### Byte strings -/

/-- `le16` (R9). -/
def le16 (v : U16) : ByteString := [v.extractLsb' 0 8, v.extractLsb' 8 8]

/-- `le32` (R9). -/
def le32 (v : U32) : ByteString :=
  [v.extractLsb' 0 8, v.extractLsb' 8 8, v.extractLsb' 16 8, v.extractLsb' 24 8]

/-- `B[i]` (R9). Every rule reads in range; outside it the value is 0 and no rule looks (log 16). -/
def byteAt (B : ByteString) (i : Nat) : Byte := B.getD i 0#8

/-- `rd_le16` (R9). -/
def rdLe16 (B : ByteString) (o : Nat) : U16 :=
  (byteAt B o).setWidth 16 ||| ((byteAt B (o + 1)).setWidth 16 <<< 8)

/-- `rd_le32` (R9). -/
def rdLe32 (B : ByteString) (o : Nat) : U32 :=
  (byteAt B o).setWidth 32 ||| ((byteAt B (o + 1)).setWidth 32 <<< 8)
    ||| ((byteAt B (o + 2)).setWidth 32 <<< 16) ||| ((byteAt B (o + 3)).setWidth 32 <<< 24)

/-- The `n` bytes from offset `i`: `B[i..i+n)` (R9), the spec's `DataRead(i, n)` (R10). R9 defines it only for
`i + n ≤ |B|`; beyond that it gives the bytes there are (DESIGN CHOICE, log 21). No command slices beyond. -/
def bytesFrom (B : ByteString) (i n : Nat) : ByteString := (B.drop i).take n

/-! ### The checksum engine -/

/-- One shift of the reflected register (R100's inner step). -/
def crcShift (c : U32) : U32 :=
  if c.getLsbD 0 then (c >>> 1) ^^^ 0xEDB88320#32 else c >>> 1

/-- `n` shifts: R100's `repeat` with its count. -/
def crcShifts : Nat → U32 → U32
  | 0, c => c
  | n + 1, c => crcShifts n (crcShift c)

/-- One byte into the register: R100's loop body. -/
def crcByte (c : U32) (b : Byte) : U32 := crcShifts 8 (c ^^^ b.setWidth 32)

/-- CRC32(B) (R100): CRC-32/ISO-HDLC over the bytes in increasing index order. -/
def crc32 (B : ByteString) : U32 := B.foldl crcByte 0xFFFFFFFF#32 ^^^ 0xFFFFFFFF#32

/-! ### Frames -/

/-- HEADER_SIZE (30_encoding.md R71). -/
def headerSize : Nat := 12

/-- WRAP(tag, body) (R11): the frame layout of R70 and R72, the topic derived from the tag (R106), the checksum over
the payload only (R102). The spec defines it for bodies up to MAX_FRAME_SIZE; on a longer one it gives the same layout
(DESIGN CHOICE, log 22), and no command uses it there. -/
def wrap (c : Config) (tag : U16) (body : ByteString) : ByteString :=
  le32 c.preamble ++ le32 (crc32 body) ++ le16 (c.topicOf tag) ++ le16 tag ++ body

/-- CTRL_FRAME(k) (R157). -/
def ctrlFrame (c : Config) : CtrlKind → ByteString
  | .ack => wrap c c.ackTag c.ackBody
  | .nack => wrap c c.nackTag c.nackBody

/-! ### How a command ends -/

/-- What a command leaves and answers. -/
abbrev Result := Block × Response

/-- `respond` with a status and every other field at its default (R10). -/
def respond (b : Block) (st : Status) : Result := (b, Response.of st)

/-- `fail(status)`: respond with every state write of the command discarded, so the block given is the one the command
found (R10, R52, R212). -/
def fail (found : Block) (st : Status) : Result := (found, Response.of st)

/-- `OutWrite(F); respond(OK, out = F)` (R10). -/
def respondOut (b : Block) (F : ByteString) : Result := (b, { Response.of .ok with out := F })

/-- `respond(OK, value = v)` (R10). -/
def respondValue (b : Block) (v : U32) : Result := (b, { Response.of .ok with value := v })

/-- The check before every frame output of NEXT_FRAME, CURRENT_FRAME and POLL: a capacity smaller than the frame fails
and consumes nothing, else the frame goes out and the block becomes `after` (R133, R136, R150). -/
def emit (cap : Nat) (F : ByteString) (found after : Block) : Result :=
  if F.length > cap then fail found .bufferTooSmall else respondOut after F

/-- All writes of a command take effect together with its response (R52). -/
def State.complete (s : State) (p : Result) : State :=
  { s with block := p.1, port := { s.port with response := p.2 } }

/-! ### The File Transfer Engine -/

/-- USED(S) (10_state.md R32). -/
def used (b : Block) : Nat :=
  (b.queue.map (fun m => m.body.length)).sum + (if b.curValid then b.curBody.length else 0)

/-- The canonical empty cursor (R31, R134, D45). -/
def Block.dropCursor (b : Block) : Block :=
  { b with curValid := false, curTag := 0#16, curBody := [], curOff := 0 }

/-- What the next chunk is cut from: the open cursor, else the popped head with offset 0; with it the queue that
remains. `none` when both are empty (R134). -/
def chunkSource (b : Block) : Option (Message × Nat × List Message) :=
  if b.curValid then some (⟨b.curTag, b.curBody⟩, b.curOff, b.queue)
  else
    match b.queue with
    | [] => none
    | m :: rest => some (m, 0, rest)

/-- The cursor after a chunk of message `m` that ends at `stop`: dropped at the message end, else left there (R134). -/
def Block.advanceCursor (b : Block) (m : Message) (stop : Nat) : Block :=
  if stop = m.body.length then b.dropCursor
  else { b with curValid := true, curTag := m.tag, curBody := m.body, curOff := stop }

/-- ENGINE_NEXT(S) (R134): `none` for EMPTY, else the frame and S'. -/
def engineNext (c : Config) (b : Block) : Option (ByteString × Block) :=
  match chunkSource b with
  | none => none
  | some (m, off, rest) =>
    let k := min c.maxFrameSize (m.body.length - off)
    let F := wrap c m.tag (bytesFrom m.body off k)
    some (F, { ({ b with queue := rest } : Block).advanceCursor m (off + k) with retValid := true, retFrame := F })

/-! ### The arbiter -/

/-- The states in which acknowledgments and retries act (R160, R164) and which CEASE_TRANSMISSION leaves (R184). -/
def inContact : Lifecycle → Bool
  | .activePass | .fileTransferActive => true
  | .idle | .suspended => false

/-- EXHAUST() (R165): abandons the in-flight message, falls back to IDLE, and keeps that change. -/
def exhaust (b : Block) : Result :=
  respond { b.dropCursor with retValid := false, retFrame := [], retry := 0#8, phase := .ready, state := .idle }
    .retryExhausted

/-- RETRY_STEP() (R164). The counter is compared after it is incremented, as a natural number (R8; log 12). -/
def retryStep (c : Config) (b : Block) : Result :=
  if inContact b.state then
    if b.retry.toNat + 1 > c.retryMax then exhaust b
    else
      respond { b with retry := BitVec.ofNat 8 (b.retry.toNat + 1),
                       phase := if b.retValid then .resend else b.phase } .ok
  else respond b .ignored

/-! ### The lifecycle -/

/-- The lifecycle state that S.prev names (R24, R186). -/
def PrevActive.toLifecycle : PrevActive → Lifecycle
  | .activePass => .activePass
  | .fileTransferActive => .fileTransferActive

/-- RESUME_TRANSMISSION's pseudocode, which SUSPEND_ELAPSED shares (R186, R188). -/
def endSuspension (b : Block) : Result :=
  if b.state = .suspended then respond { b with state := b.prev.toLifecycle } .ok
  else respond b .ignored

end Sys2Proof.Machine
end

