-- ==== Sys2Proof/Machine/Operands.lean ====
section
/-! DEFINITION. The operand forms of 30_encoding.md R77: a required DATA, a required CAP. "Required" means that `none`
gives NULL_INPUT, DATA before CAP (60_exceptions.md R213). An ignored operand is not read (R81), and the immediate is
part of the instruction (R80). -/

namespace Sys2Proof.Machine

/-- DATA is required (R77). -/
def needData (data : Option ByteString) (found : Block) (k : ByteString → Result) : Result :=
  match data with
  | none => fail found .nullInput
  | some B => k B

/-- CAP is required (R77). -/
def needCap (cap : Option Nat) (found : Block) (k : Nat → Result) : Result :=
  match cap with
  | none => fail found .nullInput
  | some n => k n

/-- A command word and its two operands arrive at the port (R10, R74): DATA is read whole (20_memory.md R53). -/
def State.latch (s : State) (req : Request) : State :=
  { s with port := { s.port with word := req.word, data := req.data, cap := req.cap } }

end Sys2Proof.Machine
end

