-- ==== Sys2Proof/Machine/Agents.lean ====
section
/-! DEFINITION. The command port and the host agents (60_exceptions.md R225 to R230): how a command word reaches the
block and its response an agent, RX's uplink procedure (R228), TX's transmission (R226), block reset (70_reset_and_hazards.md R241).
Everything here takes the meaning of commands as an argument: Step.lean gives it. -/

namespace Sys2Proof.Machine

/-- What a meaning is: a function from a command and a state to an outcome. -/
abbrev Meaning := Instr → State → Host.Outcome State Fault Refusal

/-- Goes on after a next state; keeps a fault or a refusal. -/
def thenNext (o : Host.Outcome State Fault Refusal) (f : State → State) : Host.Outcome State Fault Refusal :=
  match o with
  | .next t => .next (f t)
  | .fault r => .fault r
  | .refused r => .refused r

/-- One command on the port, one atomic step (R3, R52): latch it, decode it, then its meaning, or ILLEGAL_COMMAND with
no state change for an illegal word (30_encoding.md R79). -/
def issue (ex : Meaning) (req : Request) (s : State) : Host.Outcome State Fault Refusal :=
  match decode (s.latch req).port.word with
  | .ok i => ex i (s.latch req)
  | .error _ => .next ((s.latch req).complete (fail s.block .illegalCommand))

/-- The response returns to the agent that issued the command. TX transmits the `out` bytes of its POLL unchanged, and
nothing when POLL gives none (R226). -/
def deliver (agent : Agent) (t : State) : State :=
  { t with host :=
      { t.host with
        responses := (agent, t.port.response) :: t.host.responses
        transmitted :=
          if agent = .tx ∧ t.port.word = encode .poll ∧ t.port.response.status = .ok
          then t.port.response.out :: t.host.transmitted else t.host.transmitted } }

/-- An agent issues a command and takes its response. -/
def issueFor (ex : Meaning) (agent : Agent) (req : Request) (s : State) : Host.Outcome State Fault Refusal :=
  thenNext (issue ex req s) (deliver agent)

/-- A command of RX that takes no operands. -/
def bareRequest (i : Instr) : Request := { word := encode i, data := none, cap := none }

/-- UPLINK ends: RX is free again and the procedure returns its pair (R228). -/
def finishUplink (st : Status) (messageType : Option U16) (t : State) : State :=
  { t with host := { t.host with rxReply := none, uplinkResults := (st, messageType) :: t.host.uplinkResults } }

/-- RX hands something on to another part of the host (R228). -/
def delegate (a : HostAction) (t : State) : State :=
  { t with host := { t.host with delegated := a :: t.host.delegated } }

/-- The error exits of UPLINK: SEND_NACK, then return the status (R228). -/
def rejectUplink (ex : Meaning) (st : Status) (s : State) : Host.Outcome State Fault Refusal :=
  thenNext (issueFor ex .rx (bareRequest .sendNack) s) (finishUplink st none)

/-- UPLINK's last step for a recognised telecommand: exactly one entry point, or for UpdateTime none (R228, R198). -/
def acceptUplink (ex : Meaning) (messageTag : U16) (v : Telecommand) (s : State) : Host.Outcome State Fault Refusal :=
  match v with
  | .ack _ => thenNext (issueFor ex .rx (bareRequest .ackReceived) s) (finishUplink .ok (some messageTag))
  | .nack _ => thenNext (issueFor ex .rx (bareRequest .nackReceived) s) (finishUplink .ok (some messageTag))
  | .beginPass len =>
    thenNext (issueFor ex .rx (bareRequest .beginPass) s)
      fun t => finishUplink .ok (some messageTag) (delegate (.armPassDeadline len) t)
  | .beginFileTransfer =>
    thenNext (issueFor ex .rx (bareRequest .beginFileTransfer) s) (finishUplink .ok (some messageTag))
  | .ceaseTransmission dur =>
    thenNext (issueFor ex .rx (bareRequest .ceaseTransmission) s)
      fun t => finishUplink .ok (some messageTag) (delegate (.armSuspend dur) t)
  | .resumeTransmission =>
    thenNext (issueFor ex .rx (bareRequest .resumeTransmission) s)
      fun t => finishUplink .ok (some messageTag) (delegate .disarmSuspend t)
  | .updateTime epoch => .next (finishUplink .ok (some messageTag) (delegate (.setClock epoch) s))
  | .reset dev hard =>
    thenNext (issueFor ex .rx (bareRequest .resetSat) s)
      fun t => finishUplink .ok (some messageTag) (delegate (.externalReset dev hard) t)

/-- UPLINK after PARSE has answered `r` (R228): its error exits in R228's order, else the telecommand. -/
def followUp (ex : Meaning) (h : HostServices) (r : Response) (s : State) : Host.Outcome State Fault Refusal :=
  if r.status ≠ .ok then rejectUplink ex r.status s
  else
    match (if h.confidential then h.decrypt r.out else some r.out) with
    | none => rejectUplink ex .decryptFailed s
    | some P =>
      match h.variantOf r.tag with
      | none => rejectUplink ex .unknownMessageTag s
      | some dec => acceptUplink ex r.tag (dec P) s

/-- UPLINK's first command: PARSE of the received bytes. RX keeps the response, and other agents' commands may come
before RX goes on (R228, R250). -/
def startUplink (ex : Meaning) (bytes : ByteString) (s : State) : Host.Outcome State Fault Refusal :=
  thenNext (issueFor ex .rx { word := encode .parse, data := some bytes, cap := none } s)
    fun t => { t with host := { t.host with rxReply := some t.port.response } }

/-- RX goes on: with the follow-up of a parsed uplink if there is one, else with the next received byte string, else it
has nothing to do. -/
def rxTurn (ex : Meaning) (h : HostServices) (s : State) : Host.Outcome State Fault Refusal :=
  match s.host.rxReply with
  | some r => followUp ex h r s
  | none =>
    match s.host.rxInbox with
    | [] => .next s
    | bytes :: rest => startUplink ex bytes { s with host := { s.host with rxInbox := rest } }

/-- Block reset sets every field of S to its reset value (R240), between two commands (R241). The host side is outside
the block and keeps its data (log 7). -/
def blockReset (s : State) : State := { s with block := Block.reset }

/-- What one host event does. -/
def runEvent (ex : Meaning) (h : HostServices) (ev : HostEvent) (s : State) : Host.Outcome State Fault Refusal :=
  match ev with
  | .command agent req => issueFor ex agent req s
  | .receive bytes => .next { s with host := { s.host with rxInbox := s.host.rxInbox ++ [bytes] } }
  | .rxTurn => rxTurn ex h s
  | .reset => .next (blockReset s)

/-- The state with what is still to happen replaced: how a program is loaded, and how an event leaves the schedule. -/
def State.withSchedule (s : State) (evs : List HostEvent) : State :=
  { s with host := { s.host with schedule := evs } }

/-- One step of the whole machine: the next host event of the linearised order (20_memory.md R59). With nothing
scheduled the block waits, unchanged (R22, R244; log 4). -/
def stepWith (ex : Meaning) (h : HostServices) (s : State) : Host.Outcome State Fault Refusal :=
  match s.host.schedule with
  | [] => .next s
  | ev :: rest => runEvent ex h ev (s.withSchedule rest)

/-- The request the table's word stands for: the word alone, both operands left out, so `none` (R82). -/
def tableRequest (nbits w : Nat) : Request :=
  { word := BitVec.ofNat 32 (w % 2 ^ nbits), data := none, cap := none }

end Sys2Proof.Machine
end

