-- ==== Sys2Proof/Machine/Arbiter.lean ====
section
/-! DEFINITION. The retransmission arbiter and downlink selection (42_arbiter.md): POLL, SEND_ACK, SEND_NACK,
ACK_RECEIVED, NACK_RECEIVED, ACK_TIMEOUT. -/

namespace Sys2Proof.Machine

/-- A POLL in FILE_TRANSFER_ACTIVE with no control response pending: the part of R150's pseudocode that the phase
decides. -/
def pollFile (c : Config) (n : Nat) (b : Block) : Result :=
  match b.phase with
  | .await => respond b .empty
  | .resend => emit n b.retFrame b { b with phase := .await }
  | .ready =>
    match engineNext c b with
    | none => respond b .empty
    | some (F, b') => emit n F b { b' with phase := .await }

/-- R150's pseudocode. -/
def runPoll (c : Config) (cap : Option Nat) (b : Block) : Result :=
  needCap cap b fun n =>
    if b.halted then respond b .empty
    else if !inContact b.state then respond b .empty
    else if b.ctrlValid then emit n (ctrlFrame c b.ctrlKind) b { b with ctrlValid := false }
    else if b.state = .activePass then respond b .empty
    else pollFile c n b

/-- POLL under a given configuration. -/
def execPollUnder (c : Config) (s : State) : Host.Outcome State Fault Refusal :=
  .next (s.complete (runPoll c s.port.cap s.block))

/-- POLL (R150). -/
def execPoll (s : State) : Host.Outcome State Fault Refusal :=
  execPollUnder Config.chosen s

/-- SEND_ACK (R155). -/
def execSendAck (s : State) : Host.Outcome State Fault Refusal :=
  .next (s.complete (respond { s.block with ctrlValid := true, ctrlKind := .ack } .ok))

/-- SEND_NACK (R156). -/
def execSendNack (s : State) : Host.Outcome State Fault Refusal :=
  .next (s.complete (respond { s.block with ctrlValid := true, ctrlKind := .nack } .ok))

/-- R160's pseudocode. -/
def runAckReceived (b : Block) : Result :=
  if inContact b.state then respond { b with retry := 0#8, phase := .ready } .ok
  else respond b .ignored

/-- ACK_RECEIVED (R160). -/
def execAckReceived (s : State) : Host.Outcome State Fault Refusal :=
  .next (s.complete (runAckReceived s.block))

/-- NACK_RECEIVED under a given configuration. -/
def execNackReceivedUnder (c : Config) (s : State) : Host.Outcome State Fault Refusal :=
  .next (s.complete (retryStep c s.block))

/-- NACK_RECEIVED (R163). -/
def execNackReceived (s : State) : Host.Outcome State Fault Refusal :=
  execNackReceivedUnder Config.chosen s

/-- ACK_TIMEOUT under a given configuration. -/
def execAckTimeoutUnder (c : Config) (s : State) : Host.Outcome State Fault Refusal :=
  .next (s.complete (retryStep c s.block))

/-- ACK_TIMEOUT (R167). -/
def execAckTimeout (s : State) : Host.Outcome State Fault Refusal :=
  execAckTimeoutUnder Config.chosen s

end Sys2Proof.Machine
end

