-- ==== Sys2Proof/Machine/Codec.lean ====
section
/-! DEFINITION. The Frame Codec and the checksum engine (40_codec.md): CRC32, GENERATE, PARSE. -/

namespace Sys2Proof.Machine

/-- R103's pseudocode. -/
def runCrc32 (data : Option ByteString) (b : Block) : Result :=
  needData data b fun B => respondValue b (crc32 B)

/-- CRC32 (R103). -/
def execCrc32 (s : State) : Host.Outcome State Fault Refusal :=
  .next (s.complete (runCrc32 s.port.data s.block))

/-- R105's pseudocode: both "too long" statuses are ENCODE_ERROR (90_conflicts.md C1). -/
def runGenerate (c : Config) (tag : U16) (data : Option ByteString) (cap : Option Nat) (b : Block) : Result :=
  needData data b fun B =>
    needCap cap b fun n =>
      if B.length > c.maxFrameSize then fail b .encodeError
      else
        let F := wrap c tag B
        if F.length > n then fail b .encodeError else respondOut b F

/-- GENERATE under a given configuration. -/
def execGenerateUnder (c : Config) (tag : U16) (s : State) : Host.Outcome State Fault Refusal :=
  .next (s.complete (runGenerate c tag s.port.data s.port.cap s.block))

/-- GENERATE (R105). -/
def execGenerate (tag : U16) (s : State) : Host.Outcome State Fault Refusal :=
  execGenerateUnder Config.chosen tag s

/-- R110's pseudocode, its checks in R213's order: oversize, short, preamble, checksum. The topic is returned as
received and not checked (30_encoding.md R73). -/
def runParse (c : Config) (data : Option ByteString) (b : Block) : Result :=
  needData data b fun B =>
    if B.length > headerSize + c.maxFrameSize then fail b .bufferTooSmall
    else if B.length < headerSize then fail b .malformedHeader
    else if rdLe32 B 0 ≠ c.preamble then fail b .malformedHeader
    else
      let P := bytesFrom B headerSize (B.length - headerSize)
      if rdLe32 B 4 ≠ crc32 P then fail b .checksumMismatch
      else (b, { Response.of .ok with out := P, topic := rdLe16 B 8, tag := rdLe16 B 10 })

/-- PARSE under a given configuration. -/
def execParseUnder (c : Config) (s : State) : Host.Outcome State Fault Refusal :=
  .next (s.complete (runParse c s.port.data s.block))

/-- PARSE (R110). -/
def execParse (s : State) : Host.Outcome State Fault Refusal :=
  execParseUnder Config.chosen s

end Sys2Proof.Machine
end

