-- ==== Sys2Proof/Machine/Engine.lean ====
section
/-! DEFINITION. The File Transfer Engine (41_queue.md): ADD_MESSAGE, NEXT_FRAME, CURRENT_FRAME. None looks at S.state
or S.halted. -/

namespace Sys2Proof.Machine

/-- R130's pseudocode: the two QUEUE_FULL checks of R131, then the append at the tail. -/
def runAddMessage (c : Config) (tag : U16) (data : Option ByteString) (b : Block) : Result :=
  needData data b fun B =>
    if b.queue.length = c.queueDepth then fail b .queueFull
    else if used b + B.length > c.msgStoreBytes then fail b .queueFull
    else respond { b with queue := b.queue ++ [⟨tag, B⟩] } .ok

/-- ADD_MESSAGE under a given configuration. -/
def execAddMessageUnder (c : Config) (tag : U16) (s : State) : Host.Outcome State Fault Refusal :=
  .next (s.complete (runAddMessage c tag s.port.data s.block))

/-- ADD_MESSAGE (R130). -/
def execAddMessage (tag : U16) (s : State) : Host.Outcome State Fault Refusal :=
  execAddMessageUnder Config.chosen tag s

/-- R133's pseudocode: EMPTY and a small capacity consume nothing. -/
def runNextFrame (c : Config) (cap : Option Nat) (b : Block) : Result :=
  needCap cap b fun n =>
    match engineNext c b with
    | none => respond b .empty
    | some (F, b') => emit n F b b'

/-- NEXT_FRAME under a given configuration. -/
def execNextFrameUnder (c : Config) (s : State) : Host.Outcome State Fault Refusal :=
  .next (s.complete (runNextFrame c s.port.cap s.block))

/-- NEXT_FRAME (R133). -/
def execNextFrame (s : State) : Host.Outcome State Fault Refusal :=
  execNextFrameUnder Config.chosen s

/-- R136's pseudocode. -/
def runCurrentFrame (cap : Option Nat) (b : Block) : Result :=
  needCap cap b fun n =>
    if b.retValid then emit n b.retFrame b b else respond b .empty

/-- CURRENT_FRAME (R136). -/
def execCurrentFrame (s : State) : Host.Outcome State Fault Refusal :=
  .next (s.complete (runCurrentFrame s.port.cap s.block))

end Sys2Proof.Machine
end

