-- ==== Sys2Proof/Machine/Flags.lean ====
section
/-! DEFINITION. The block has no condition codes (10_state.md R33). What a program reads of its status bits is the status
word (R34), and of a command's outcome the status code (30_encoding.md R76): their numbers stand here. -/

namespace Sys2Proof.Machine

/-- The number of a lifecycle state (R23). -/
def Lifecycle.code : Lifecycle → BitVec 2
  | .idle => 0#2
  | .activePass => 1#2
  | .fileTransferActive => 2#2
  | .suspended => 3#2

/-- The bit of S.prev (R24). -/
def PrevActive.code : PrevActive → BitVec 1
  | .activePass => 0#1
  | .fileTransferActive => 1#1

/-- The bit of S.ctrl_kind (R27). -/
def CtrlKind.code : CtrlKind → BitVec 1
  | .ack => 0#1
  | .nack => 1#1

/-- The number of an arbiter phase (R28). -/
def Phase.code : Phase → BitVec 2
  | .ready => 0#2
  | .await => 1#2
  | .resend => 2#2

/-- The 8-bit status code (R76). -/
def Status.code : Status → BitVec 8
  | .ok => 0x00#8
  | .empty => 0x01#8
  | .malformedHeader => 0x02#8
  | .checksumMismatch => 0x03#8
  | .decryptFailed => 0x04#8
  | .unknownMessageTag => 0x05#8
  | .bufferTooSmall => 0x06#8
  | .queueFull => 0x07#8
  | .retryExhausted => 0x08#8
  | .nullInput => 0x09#8
  | .encodeError => 0x0A#8
  | .ignored => 0x0B#8
  | .illegalCommand => 0x0C#8

/-- The status word (R34), put together as R196's pseudocode does. -/
def statusWord (b : Block) : U32 :=
  b.state.code.setWidth 32
    ||| (b.prev.code.setWidth 32 <<< 2)
    ||| ((BitVec.ofBool b.halted).setWidth 32 <<< 3)
    ||| (b.phase.code.setWidth 32 <<< 4)
    ||| ((BitVec.ofBool b.ctrlValid).setWidth 32 <<< 6)
    ||| (b.ctrlKind.code.setWidth 32 <<< 7)
    ||| ((BitVec.ofBool b.curValid).setWidth 32 <<< 8)
    ||| ((BitVec.ofBool b.retValid).setWidth 32 <<< 9)
    ||| (b.retry.setWidth 32 <<< 16)
    ||| (BitVec.ofNat 32 b.queue.length <<< 24)

end Sys2Proof.Machine
end

