-- ==== Sys2Proof/Machine/Session.lean ====
section
/-! DEFINITION. The session lifecycle events and the status read (43_session.md): BEGIN_PASS, BEGIN_FILE_TRANSFER,
CEASE_TRANSMISSION, RESUME_TRANSMISSION, SUSPEND_ELAPSED, PASS_ELAPSED, RESET_SAT, READ_STATUS. An event with no
transition from the current state answers IGNORED (R197); none looks at S.halted. -/

namespace Sys2Proof.Machine

/-- R180's pseudocode. -/
def runBeginPass (b : Block) : Result :=
  if b.state = .idle then respond { b with state := .activePass } .ok else respond b .ignored

/-- BEGIN_PASS (R180). -/
def execBeginPass (s : State) : Host.Outcome State Fault Refusal :=
  .next (s.complete (runBeginPass s.block))

/-- R182's pseudocode; the phase is not changed. -/
def runBeginFileTransfer (b : Block) : Result :=
  if b.state = .activePass then respond { b with state := .fileTransferActive, retry := 0#8 } .ok
  else respond b .ignored

/-- BEGIN_FILE_TRANSFER (R182). -/
def execBeginFileTransfer (s : State) : Host.Outcome State Fault Refusal :=
  .next (s.complete (runBeginFileTransfer s.block))

/-- R184's pseudocode. -/
def runCeaseTransmission (b : Block) : Result :=
  match b.state with
  | .activePass => respond { b with prev := .activePass, state := .suspended } .ok
  | .fileTransferActive => respond { b with prev := .fileTransferActive, state := .suspended } .ok
  | .idle | .suspended => respond b .ignored

/-- CEASE_TRANSMISSION (R184). -/
def execCeaseTransmission (s : State) : Host.Outcome State Fault Refusal :=
  .next (s.complete (runCeaseTransmission s.block))

/-- RESUME_TRANSMISSION (R186). -/
def execResumeTransmission (s : State) : Host.Outcome State Fault Refusal :=
  .next (s.complete (endSuspension s.block))

/-- SUSPEND_ELAPSED (R188). -/
def execSuspendElapsed (s : State) : Host.Outcome State Fault Refusal :=
  .next (s.complete (endSuspension s.block))

/-- R190's pseudocode: SUSPENDED counts as an active state. -/
def runPassElapsed (b : Block) : Result :=
  if b.state = .idle then respond b .ignored
  else respond { b with state := .idle, retry := 0#8, phase := .ready } .ok

/-- PASS_ELAPSED (R190). -/
def execPassElapsed (s : State) : Host.Outcome State Fault Refusal :=
  .next (s.complete (runPassElapsed s.block))

/-- RESET_SAT (R193). -/
def execResetSat (s : State) : Host.Outcome State Fault Refusal :=
  .next (s.complete (respond { s.block with halted := true } .ok))

/-- READ_STATUS (R196). -/
def execReadStatus (s : State) : Host.Outcome State Fault Refusal :=
  .next (s.complete (respondValue s.block (statusWord s.block)))

end Sys2Proof.Machine
end

