-- ==== Sys2Proof/Machine/Configured.lean ====
section
/-! DEFINITION. The machine with its parameters as arguments (00_scope.md R6, R20: "a model takes them as arguments").
`exec` is this at `Config.chosen`; a test can run it at `Config.e0`, and a claim can be made of every configuration. -/

namespace Sys2Proof.Machine

/-- The meaning of a command under a configuration. -/
def execUnder (c : Config) (i : Instr) (s : State) : Host.Outcome State Fault Refusal :=
  match i with
  | .crc32 => execCrc32 s
  | .generate tag => execGenerateUnder c tag s
  | .parse => execParseUnder c s
  | .addMessage tag => execAddMessageUnder c tag s
  | .nextFrame => execNextFrameUnder c s
  | .currentFrame => execCurrentFrame s
  | .poll => execPollUnder c s
  | .sendAck => execSendAck s
  | .sendNack => execSendNack s
  | .ackReceived => execAckReceived s
  | .nackReceived => execNackReceivedUnder c s
  | .ackTimeout => execAckTimeoutUnder c s
  | .beginPass => execBeginPass s
  | .beginFileTransfer => execBeginFileTransfer s
  | .ceaseTransmission => execCeaseTransmission s
  | .resumeTransmission => execResumeTransmission s
  | .suspendElapsed => execSuspendElapsed s
  | .passElapsed => execPassElapsed s
  | .resetSat => execResetSat s
  | .readStatus => execReadStatus s

end Sys2Proof.Machine
end

