-- ==== Sys2Proof/Machine/Dispatch.lean ====
section
/-! DEFINITION. exec: the meaning of each command, one arm a constructor (30_encoding.md R78, R79's "dispatch"). -/

namespace Sys2Proof.Machine

def exec (i : Instr) (s : State) : Host.Outcome State Fault Refusal :=
  match i with
  | .crc32 => Sys2Proof.Machine.execCrc32 s
  | .generate tag => Sys2Proof.Machine.execGenerate tag s
  | .parse => Sys2Proof.Machine.execParse s
  | .addMessage tag => Sys2Proof.Machine.execAddMessage tag s
  | .nextFrame => Sys2Proof.Machine.execNextFrame s
  | .currentFrame => Sys2Proof.Machine.execCurrentFrame s
  | .poll => Sys2Proof.Machine.execPoll s
  | .sendAck => Sys2Proof.Machine.execSendAck s
  | .sendNack => Sys2Proof.Machine.execSendNack s
  | .ackReceived => Sys2Proof.Machine.execAckReceived s
  | .nackReceived => Sys2Proof.Machine.execNackReceived s
  | .ackTimeout => Sys2Proof.Machine.execAckTimeout s
  | .beginPass => Sys2Proof.Machine.execBeginPass s
  | .beginFileTransfer => Sys2Proof.Machine.execBeginFileTransfer s
  | .ceaseTransmission => Sys2Proof.Machine.execCeaseTransmission s
  | .resumeTransmission => Sys2Proof.Machine.execResumeTransmission s
  | .suspendElapsed => Sys2Proof.Machine.execSuspendElapsed s
  | .passElapsed => Sys2Proof.Machine.execPassElapsed s
  | .resetSat => Sys2Proof.Machine.execResetSat s
  | .readStatus => Sys2Proof.Machine.execReadStatus s

end Sys2Proof.Machine
end

