-- ==== Sys2Proof/Machine/Step.lean ====
section
/-! DEFINITION. The step of the machine, and where a word is placed for the next step to run it. -/

namespace Sys2Proof.Machine

/-- One step: the next host event, every command with exec's meaning. -/
def step (s : State) : Host.Outcome State Fault Refusal := stepWith exec HostServices.chosen s

/-- One step under a given configuration and given host services. -/
def stepUnder (c : Config) (h : HostServices) (s : State) : Host.Outcome State Fault Refusal :=
  stepWith (execUnder c) h s

/-- The state in which the command `w` is the next thing that reaches the port (log 1, log 6). -/
def State.withFetchWord (s : State) (nbits w : Nat) : State :=
  s.withSchedule (.command .rx (tableRequest nbits w) :: s.host.schedule)

end Sys2Proof.Machine
end

