-- ==== Sys2Proof/Safety.lean ====
section
/-! DEFINITION. What a safe state and a safe run are, in the terms the statements use: the invariants of
10_state.md R35, the frames a message is cut into (41_queue.md R135), and runs of commands (20_memory.md R59). -/

namespace Sys2Proof.Machine

/-! ### The invariants of R35 -/

/-- INV1 to INV8 (R35), for a block under a configuration. -/
structure Block.Inv (c : Config) (b : Block) : Prop where
  /-- INV1 -/
  queueDepth : b.queue.length ≤ c.queueDepth
  /-- INV2 -/
  store : used b ≤ c.msgStoreBytes
  /-- INV3 -/
  retry : b.retry.toNat ≤ c.retryMax
  /-- INV4 -/
  cursor : b.curValid = true →
    0 < b.curOff ∧ b.curOff < b.curBody.length ∧ b.curOff % c.maxFrameSize = 0
  /-- INV5 -/
  retained : b.retValid = true →
    (∃ t B, B.length ≤ c.maxFrameSize ∧ b.retFrame = wrap c t B) ∧
    headerSize ≤ b.retFrame.length ∧ b.retFrame.length ≤ headerSize + c.maxFrameSize
  /-- INV6 -/
  phase : b.phase = .ready ∨ b.phase = .await ∨ b.phase = .resend
  /-- INV7 -/
  inFlight : b.phase ≠ .ready → b.retValid = true
  /-- INV8 -/
  idle : b.state = .idle → b.phase = .ready ∧ b.retry = 0#8

/-- R35 for the machine. -/
def State.Inv (s : State) : Prop := s.block.Inv Config.chosen

/-- The don't-care fields stay canonical (93_implementation_defined.md I19; R31, R134, R165). -/
def Block.Canonical (b : Block) : Prop :=
  (b.curValid = false → b.curTag = 0#16 ∧ b.curBody = [] ∧ b.curOff = 0) ∧
  (b.retValid = false → b.retFrame = [])

/-! ### Frames of a message -/

/-- How many frames a message of length L yields (R135): one if it is empty, else ⌈L / MAX_FRAME_SIZE⌉. -/
def frameCount (c : Config) (L : Nat) : Nat :=
  if L = 0 then 1 else (L + (c.maxFrameSize - 1)) / c.maxFrameSize

/-- The frames of a message in order: its chunks at offsets 0, MAX_FRAME_SIZE, 2·MAX_FRAME_SIZE, ... (R135). The last
chunk is what is left of the body: `bytesFrom` stops at its end (log 21). -/
def messageFrames (c : Config) (m : Message) : List ByteString :=
  (List.range (frameCount c m.body.length)).map fun j =>
    wrap c m.tag (bytesFrom m.body (j * c.maxFrameSize) c.maxFrameSize)

/-- The frames of a whole queue, message after message (R132, R138). -/
def queueFrames (c : Config) (q : List Message) : List ByteString := q.flatMap (messageFrames c)

/-- The payload of a frame: what follows the header (R72). -/
def payloadOf (F : ByteString) : ByteString := F.drop headerSize

/-! ### Bits of a byte string -/

/-- Bit `p` of a byte string: bit (p mod 8) of byte (p div 8), as 30_encoding.md R72 numbers bits (log 19). -/
def bitAt (B : ByteString) (p : Nat) : Bool := (byteAt B (p / 8)).getLsbD (p % 8)

/-- The byte string with bit `p` flipped. -/
def flipBit (B : ByteString) (p : Nat) : ByteString :=
  B.modify (p / 8) (fun x => x ^^^ (1#8 <<< (p % 8)))

/-! ### How a statement names an outcome -/

/-- The state with S.halted set and everything else as it was (10_state.md R25). -/
def State.halt (s : State) : State := { s with block := { s.block with halted := true } }

/-- `s` with block `b` and response `r`, and EVERYTHING else as it was: the operands on the port and the whole host
side. A statement `exec i s = .next (s.after b r)` is thus its own frame. -/
def State.after (s : State) (b : Block) (r : Response) : State :=
  { s with block := b, port := { s.port with response := r } }

/-- A response that carries a frame or a payload. -/
def frameResponse (F : ByteString) : Response := { Response.of .ok with out := F }

/-- An illegal word (R79): the decoder rejects it, and whoever issues it, with whatever operands, in whatever state, gets
ILLEGAL_COMMAND and the block stays as it was. -/
def IllegalWord (w : U32) : Prop :=
  (∃ e, decode w = .error e) ∧
  ∀ (s : State) (a : Agent) (data : Option ByteString) (cap : Option Nat),
    step (s.withSchedule [.command a ⟨w, data, cap⟩]) =
      .next (deliver a (((s.withSchedule []).latch ⟨w, data, cap⟩).after s.block (Response.of .illegalCommand)))

/-- The encoding of a command without a tag (30_encoding.md R78, R79): its word decodes to it, no other does, and any
other word with its OPC (a nonzero RSV or IMM) is illegal. -/
def EncodedOnlyBy (i : Instr) (w0 : U32) : Prop :=
  (∀ w, decode w = .ok i ↔ w = w0) ∧
  ∀ w, opcField w = opcField w0 → w ≠ w0 → IllegalWord w

/-- The encoding of a command with a tag (R78, R80): OPC in bits 31:24, zeros in bits 23:16, the tag in bits 15:0, and
any word with its OPC and a nonzero RSV is illegal. -/
def EncodedWithTag (f : U16 → Instr) (w0 : U32) : Prop :=
  (∀ w tag, decode w = .ok (f tag) ↔ w = w0 ||| tag.setWidth 32) ∧
  ∀ w, opcField w = opcField w0 → rsvField w ≠ 0#8 → IllegalWord w

/-! ### Tables of the spec, written apart from the machine -/

/-- The statuses each command can answer with (30_encoding.md R76, 60_exceptions.md R211). -/
def statusesOf : Instr → List Status
  | .crc32 => [.ok, .nullInput]
  | .generate _ => [.ok, .nullInput, .encodeError]
  | .parse => [.ok, .nullInput, .bufferTooSmall, .malformedHeader, .checksumMismatch]
  | .addMessage _ => [.ok, .nullInput, .queueFull]
  | .nextFrame | .currentFrame | .poll => [.ok, .nullInput, .empty, .bufferTooSmall]
  | .nackReceived | .ackTimeout => [.ok, .ignored, .retryExhausted]
  | .ackReceived | .beginPass | .beginFileTransfer | .ceaseTransmission | .resumeTransmission
  | .suspendElapsed | .passElapsed => [.ok, .ignored]
  | .sendAck | .sendNack | .resetSat | .readStatus => [.ok]

/-- The events of the transition table (43_session.md R197). -/
def isEvent : Instr → Bool
  | .ackReceived | .nackReceived | .ackTimeout | .beginPass | .beginFileTransfer | .ceaseTransmission
  | .resumeTransmission | .suspendElapsed | .passElapsed | .resetSat => true
  | .crc32 | .generate _ | .parse | .addMessage _ | .nextFrame | .currentFrame | .poll | .sendAck | .sendNack
  | .readStatus => false

/-- R165's block after exhaustion, every field written out. -/
def exhausted (b : Block) : Block where
  state := .idle
  prev := b.prev
  halted := b.halted
  retry := 0#8
  ctrlValid := b.ctrlValid
  ctrlKind := b.ctrlKind
  phase := .ready
  queue := b.queue
  curValid := false
  curTag := 0#16
  curBody := []
  curOff := 0
  retValid := false
  retFrame := []

/-- The rows of NACK_RECEIVED and ACK_TIMEOUT in R197: the two rows of an active state, told apart by retry + 1. -/
def retryRow (c : Config) (b : Block) : Block × Status :=
  if b.retry.toNat + 1 ≤ c.retryMax then
    ({ b with retry := b.retry + 1#8, phase := if b.retValid then .resend else b.phase }, .ok)
  else (exhausted b, .retryExhausted)

/-- The transition table of R197: the block and the status after an event, or `none` where the table has no row. -/
def lifecycleRow (c : Config) (i : Instr) (b : Block) : Option (Block × Status) :=
  match i, b.state with
  | .beginPass, .idle => some ({ b with state := .activePass }, .ok)
  | .beginFileTransfer, .activePass => some ({ b with state := .fileTransferActive, retry := 0#8 }, .ok)
  | .ceaseTransmission, .activePass => some ({ b with state := .suspended, prev := .activePass }, .ok)
  | .ceaseTransmission, .fileTransferActive =>
    some ({ b with state := .suspended, prev := .fileTransferActive }, .ok)
  | .resumeTransmission, .suspended => some ({ b with state := b.prev.toLifecycle }, .ok)
  | .suspendElapsed, .suspended => some ({ b with state := b.prev.toLifecycle }, .ok)
  | .passElapsed, .activePass => some ({ b with state := .idle, retry := 0#8, phase := .ready }, .ok)
  | .passElapsed, .fileTransferActive => some ({ b with state := .idle, retry := 0#8, phase := .ready }, .ok)
  | .passElapsed, .suspended => some ({ b with state := .idle, retry := 0#8, phase := .ready }, .ok)
  | .ackReceived, .activePass => some ({ b with retry := 0#8, phase := .ready }, .ok)
  | .ackReceived, .fileTransferActive => some ({ b with retry := 0#8, phase := .ready }, .ok)
  | .nackReceived, .activePass => some (retryRow c b)
  | .nackReceived, .fileTransferActive => some (retryRow c b)
  | .ackTimeout, .activePass => some (retryRow c b)
  | .ackTimeout, .fileTransferActive => some (retryRow c b)
  | .resetSat, _ => some ({ b with halted := true }, .ok)
  | _, _ => none

/-- What the uplink procedure of 60_exceptions.md R228 does with PARSE's response: the status and message type it
returns, the one command it issues (none for UpdateTime), and what it hands on to the rest of the host. -/
def uplinkOutcome (h : HostServices) (r : Response) : (Status × Option U16) × Option Instr × List HostAction :=
  if r.status ≠ .ok then ((r.status, none), some .sendNack, [])
  else
    match (if h.confidential then h.decrypt r.out else some r.out) with
    | none => ((.decryptFailed, none), some .sendNack, [])
    | some P =>
      match h.variantOf r.tag with
      | none => ((.unknownMessageTag, none), some .sendNack, [])
      | some dec =>
        match dec P with
        | .ack _ => ((.ok, some r.tag), some .ackReceived, [])
        | .nack _ => ((.ok, some r.tag), some .nackReceived, [])
        | .beginPass len => ((.ok, some r.tag), some .beginPass, [.armPassDeadline len])
        | .beginFileTransfer => ((.ok, some r.tag), some .beginFileTransfer, [])
        | .ceaseTransmission dur => ((.ok, some r.tag), some .ceaseTransmission, [.armSuspend dur])
        | .resumeTransmission => ((.ok, some r.tag), some .resumeTransmission, [.disarmSuspend])
        | .updateTime epoch => ((.ok, some r.tag), none, [.setClock epoch])
        | .reset dev hard => ((.ok, some r.tag), some .resetSat, [.externalReset dev hard])

/-! ### Runs of commands -/

/-- What an agent issues when it gives an instruction and operands. -/
def request (i : Instr) (data : Option ByteString) (cap : Option Nat) : Request :=
  { word := encode i, data := data, cap := cap }

/-- `t` is what one step makes of `s` when the command `r` of agent `a` is next. -/
def StepsBy (a : Agent) (r : Request) (s t : State) : Prop :=
  step (s.withSchedule [.command a r]) = .next t

/-- `t` is reached from `s` by commands of any agents in any order (R59), each of which satisfies `P` of the state it
finds, the request, and the state it leaves. -/
inductive RunsVia (P : State → Request → State → Prop) : State → State → Prop where
  /-- no command -/
  | done (s : State) : RunsVia P s s
  /-- one command, then the rest -/
  | command (a : Agent) (r : Request) (s t u : State) :
    StepsBy a r s t → P s r t → RunsVia P t u → RunsVia P s u

/-- One command of a run: the state it found, the request, and the state it left. -/
structure Exchange where
  /-- the state before the command -/
  found : State
  /-- the command -/
  req : Request
  /-- the state after it, its response included -/
  left : State
deriving DecidableEq, Repr

/-- `t` is reached from `s` by the commands of the list, of any agents, in its order (R59). -/
inductive RunsBy : List Exchange → State → State → Prop where
  /-- no command -/
  | done (s : State) : RunsBy [] s s
  /-- one command, then the rest -/
  | command (a : Agent) (r : Request) (s t u : State) (l : List Exchange) :
    StepsBy a r s t → RunsBy l t u → RunsBy (⟨s, r, t⟩ :: l) s u

/-- A retransmission: a POLL in phase RESEND, no control response pending, that answers OK (R150). -/
def Exchange.retransmits (x : Exchange) : Bool :=
  decide (x.req.word = encode .poll ∧ x.found.block.ctrlValid = false ∧ x.found.block.phase = .resend ∧
    x.left.port.response.status = .ok)

/-- A retry that the ceiling allows: a NACK_RECEIVED or ACK_TIMEOUT that answers OK (R164). -/
def Exchange.retries (x : Exchange) : Bool :=
  decide ((x.req.word = encode .nackReceived ∨ x.req.word = encode .ackTimeout) ∧ x.left.port.response.status = .ok)

/-- 70_reset_and_hazards.md R259's "consecutive": the word is none of the commands that set S.retry to 0. -/
def Consecutive (w : U32) : Prop :=
  decode w ≠ .ok .ackReceived ∧ decode w ≠ .ok .beginFileTransfer ∧ decode w ≠ .ok .passElapsed

/-- The command `r`, which took `s` to `t`, was a POLL that emitted a file-transfer frame: it answered OK and no
control response was pending (R150, R170). -/
def EmitsFileFrame (s : State) (r : Request) (t : State) : Prop :=
  decode r.word = .ok .poll ∧ s.block.ctrlValid = false ∧ t.port.response.status = .ok

/-- The command `r` is a NACK_RECEIVED or an ACK_TIMEOUT. -/
def IsRetry (r : Request) : Prop := decode r.word = .ok .nackReceived ∨ decode r.word = .ok .ackTimeout

/-- The commands that end the wait for an acknowledgment by the rules with pseudocode (R160, R164, R165, R190): any
ACK_RECEIVED, NACK_RECEIVED, ACK_TIMEOUT or PASS_ELAPSED that is not IGNORED, an exhausting one among them (log 15). -/
def EndsWait (_ : State) (r : Request) (t : State) : Prop :=
  (decode r.word = .ok .ackReceived ∨ IsRetry r ∨ decode r.word = .ok .passElapsed) ∧
  t.port.response.status ≠ .ignored

/-- The commands that 42_arbiter.md R168 lists, as it words them: a retry command only if it is "not IGNORED and not
exhausting" (log 15). -/
def EndsWaitAsWorded (_ : State) (r : Request) (t : State) : Prop :=
  (decode r.word = .ok .ackReceived ∧ t.port.response.status ≠ .ignored) ∨
  (IsRetry r ∧ t.port.response.status ≠ .ignored ∧ t.port.response.status ≠ .retryExhausted) ∨
  (decode r.word = .ok .passElapsed ∧ t.port.response.status ≠ .ignored)

/-- The commands that write S.ret_frame (41_queue.md R137): NEXT_FRAME or POLL through ENGINE_NEXT, and exhaustion. -/
def WritesRetained (s : State) (r : Request) (t : State) : Prop :=
  (decode r.word = .ok .nextFrame ∧ t.port.response.status = .ok) ∨
  (EmitsFileFrame s r t ∧ s.block.phase = .ready) ∨
  (IsRetry r ∧ t.port.response.status = .retryExhausted)

/-! ### Safe outcomes -/

/-- A safe outcome is a next state: no command faults or is refused (60_exceptions.md R210, R230). -/
def SafeOutcome (o : Host.Outcome State Fault Refusal) : Prop := ∃ t, o = .next t

end Sys2Proof.Machine
end

