-- ==== Sys2Proof/Certificates/Slice0/Obligations.lean ====
section
/-! DEFINITION. The statements about the block, from the numbered rules of spec/. Each holds of every configuration that
meets 00_scope.md R6, because `Config.chosen` has no body. `s.after b r` is `s` with block `b` and response `r` and
everything else as it was, so an equation `exec i s = .next (s.after b r)` is the instruction's frame as well as its
result. -/

open Sys2Proof Sys2Proof.Machine

/-! ### Encoding -/

/-- Decode and encode agree: every well-formed command is what its word decodes to, and a word that decodes to a
command is that command's word (30_encoding.md R78, R79, R80, R82). -/
def Obligations.DecodeInvertsEncode : Prop :=
  (∀ i : Instr, i.wellFormed = true → decode (encode i) = .ok i) ∧
  ∀ (w : U32) (i : Instr), decode w = .ok i → encode i = w

/-- R79: the decoder rejects exactly the words that fail one of its three checks, in their order, and dispatches on OPC
with TAG = IMM; the all-zero word is illegal; an illegal word is answered with ILLEGAL_COMMAND and changes nothing of
the block. The checks are `CommandWord`'s arithmetic on the word's value. -/
def Obligations.DecoderRejectsExactlyIllegalWords : Prop :=
  (∀ w : U32,
    (decode w = .error .unknownOpcode ↔ CommandWord.opcodeKnown w = false) ∧
    (decode w = .error .reservedNonzero ↔
      CommandWord.opcodeKnown w = true ∧ CommandWord.reservedZero w = false) ∧
    (decode w = .error .immediateNonzero ↔
      CommandWord.opcodeKnown w = true ∧ CommandWord.reservedZero w = true ∧
        CommandWord.immediateLegal w = false) ∧
    ((∃ i, decode w = .ok i) ↔ CommandWord.legal w = true)) ∧
  (∀ (w : U32) (i : Instr), decode w = .ok i →
    i.opcode.toNat = w.toNat / 2 ^ 24 ∧ (i.takesTag = true → i.immediate.toNat = w.toNat % 2 ^ 16)) ∧
  decode 0x00000000#32 = .error .unknownOpcode ∧
  ∀ (s : State) (a : Agent) (r : Request) (rest : List HostEvent) (e : DecodeError),
    s.host.schedule = .command a r :: rest → decode r.word = .error e →
    step s = .next (deliver a (((s.withSchedule rest).latch r).after s.block (Response.of .illegalCommand)))

/-- A few words written out from 30_encoding.md R78, one of every family, decode to the command they stand for. -/
def Obligations.SpecWordsDecode : Prop :=
  decode 0b00000001_00000000_0000000000000000#32 = .ok .crc32 ∧
  decode 0b00000010_00000000_0000001100000001#32 = .ok (.generate 0x0301#16) ∧
  decode 0b00010000_00000000_1111111111111111#32 = .ok (.addMessage 0xFFFF#16) ∧
  decode 0b00010001_00000000_0000000000000000#32 = .ok .nextFrame ∧
  decode 0b00100000_00000000_0000000000000000#32 = .ok .poll ∧
  decode 0b00110001_00000000_0000000000000000#32 = .ok .nackReceived ∧
  decode 0b01000010_00000000_0000000000000000#32 = .ok .ceaseTransmission ∧
  decode 0b01010000_00000000_0000000000000000#32 = .ok .readStatus

/-! ### The step, reset and the invariants -/

/-- A step runs the decoded command: when the next host event is a command whose word decodes to `i`, the step takes
the event off the schedule, latches the word and its operands on the port, runs `exec i`, and delivers the response to
the agent that issued it (20_memory.md R52, R59). -/
def Obligations.StepRunsDecodedCommand : Prop :=
  ∀ (s : State) (a : Agent) (r : Request) (rest : List HostEvent) (i : Instr),
    s.host.schedule = .command a r :: rest → decode r.word = .ok i →
    step s = thenNext (exec i ((s.withSchedule rest).latch r)) (deliver a)

/-- R240: after reset every field of S has its reset value and the status word reads 0; a block reset between two
commands puts S back there. (What it leaves of the port and the host side is `BlockResetKeepsPortAndHost`, log 7.) -/
def Obligations.ResetValues : Prop :=
  State.reset.block =
    { state := .idle, prev := .activePass, halted := false, retry := 0#8, ctrlValid := false, ctrlKind := .ack,
      phase := .ready, queue := [], curValid := false, curTag := 0#16, curBody := [], curOff := 0,
      retValid := false, retFrame := [] } ∧
  (State.reset.block.state.code = 0#2 ∧ State.reset.block.prev.code = 0#1 ∧
    State.reset.block.ctrlKind.code = 0#1 ∧ State.reset.block.phase.code = 0#2) ∧
  statusWord State.reset.block = 0x00000000#32 ∧
  ∀ (s : State) (rest : List HostEvent), s.host.schedule = .reset :: rest →
    ∃ t : State, step s = .next t ∧ t.block = State.reset.block

/-- The reset state meets the invariants INV1 to INV8 (R35), and its don't-care fields are canonical. -/
def Obligations.ResetMeetsInvariants : Prop :=
  State.reset.Inv ∧ State.reset.block.Canonical

/-- Every step keeps INV1 to INV8 of R35, from every state that meets them, whatever the host does. -/
def Obligations.StepKeepsInvariants : Prop :=
  ∀ s t : State, s.Inv → step s = .next t → t.Inv

/-- R35: every state reachable from reset, under every schedule of host events, meets INV1 to INV8. -/
def Obligations.ReachableStatesMeetInvariants : Prop :=
  ∀ (evs : List HostEvent) (k : Nat) (t : State),
    Host.Core.run Sys2Proof.core k (State.reset.withSchedule evs) = .next t → t.Inv

/-- Every step keeps the don't-care fields canonical (93_implementation_defined.md I19; R31, R134, R165). -/
def Obligations.StepKeepsCanonicalFields : Prop :=
  ∀ s t : State, s.block.Canonical → step s = .next t → t.block.Canonical

/-- The block is total over host behaviour: any number of steps from any state, with any schedule of legal and illegal
words, answers a next state (60_exceptions.md R210, R230; 70_reset_and_hazards.md R259). -/
def Obligations.EveryRunAnswers : Prop :=
  ∀ (k : Nat) (s : State), ∃ t : State, Host.Core.run Sys2Proof.core k s = .next t

/-! ### Rules about all commands -/

/-- R212 and R217: a command, legal or not, that answers anything but OK and RETRY_EXHAUSTED leaves the block as it
was; RETRY_EXHAUSTED, which only NACK_RECEIVED and ACK_TIMEOUT answer, comes with the fall back to IDLE from an active
state. -/
def Obligations.FailingCommandsChangeNothing : Prop :=
  ∀ (a : Agent) (r : Request) (s t : State), StepsBy a r s t →
    (t.port.response.status ≠ .ok → t.port.response.status ≠ .retryExhausted → t.block = s.block) ∧
    (t.port.response.status = .retryExhausted →
      IsRetry r ∧ s.block.state ≠ .idle ∧ s.block.state ≠ .suspended ∧ t.block.state = .idle)

/-- Each command answers only with the statuses that 30_encoding.md R76 and 60_exceptions.md R211 give it, so the block
never answers DECRYPT_FAILED or UNKNOWN_MESSAGE_TAG (R216); an answer other than OK carries its status alone, and a field
a command does not output is 0 or [] (R75). -/
def Obligations.StatusesOfEachCommand : Prop :=
  ∀ (i : Instr) (s t : State), exec i s = .next t →
    t.port.response.status ∈ statusesOf i ∧
    t.port.response.status ≠ .decryptFailed ∧ t.port.response.status ≠ .unknownMessageTag ∧
    (t.port.response.status ≠ .ok → t.port.response = Response.of t.port.response.status) ∧
    (t.port.response.value ≠ 0#32 → i = .crc32 ∨ i = .readStatus) ∧
    (t.port.response.out ≠ [] →
      (∃ tag, i = .generate tag) ∨ i = .parse ∨ i = .nextFrame ∨ i = .currentFrame ∨ i = .poll) ∧
    (t.port.response.topic ≠ 0#16 ∨ t.port.response.tag ≠ 0#16 → i = .parse)

/-- Which commands write which field of S (10_state.md R23 to R31, "Written by"), and what every command leaves alone:
the operands on the port and the host side. -/
def Obligations.WritersOfEachField : Prop :=
  ∀ (i : Instr) (s t : State), exec i s = .next t →
    (t.block.state ≠ s.block.state →
      i ∈ [.beginPass, .beginFileTransfer, .ceaseTransmission, .resumeTransmission, .suspendElapsed, .passElapsed] ∨
      (i ∈ [.nackReceived, .ackTimeout] ∧ t.port.response.status = .retryExhausted)) ∧
    (t.block.prev ≠ s.block.prev → i = .ceaseTransmission) ∧
    (t.block.halted ≠ s.block.halted → i = .resetSat) ∧
    (t.block.retry ≠ s.block.retry →
      i ∈ [.ackReceived, .nackReceived, .ackTimeout, .beginFileTransfer, .passElapsed]) ∧
    (t.block.ctrlValid ≠ s.block.ctrlValid → i ∈ [.sendAck, .sendNack, .poll]) ∧
    (t.block.ctrlKind ≠ s.block.ctrlKind → i ∈ [.sendAck, .sendNack]) ∧
    (t.block.phase ≠ s.block.phase → i ∈ [.poll, .ackReceived, .nackReceived, .ackTimeout, .passElapsed]) ∧
    (t.block.queue ≠ s.block.queue →
      (∃ tag B, i = .addMessage tag ∧ s.port.data = some B ∧ t.block.queue = s.block.queue ++ [⟨tag, B⟩]) ∨
      (i ∈ [.nextFrame, .poll] ∧ ∃ m, s.block.queue = m :: t.block.queue)) ∧
    ((t.block.curValid, t.block.curTag, t.block.curBody, t.block.curOff) ≠
        (s.block.curValid, s.block.curTag, s.block.curBody, s.block.curOff) →
      i ∈ [.nextFrame, .poll] ∨
      (i ∈ [.nackReceived, .ackTimeout] ∧ t.port.response.status = .retryExhausted)) ∧
    ((t.block.retValid, t.block.retFrame) ≠ (s.block.retValid, s.block.retFrame) →
      i ∈ [.nextFrame, .poll] ∨
      (i ∈ [.nackReceived, .ackTimeout] ∧ t.port.response.status = .retryExhausted)) ∧
    t.host = s.host ∧ t.port.word = s.port.word ∧ t.port.data = s.port.data ∧ t.port.cap = s.port.cap

/-- CRC32, GENERATE, PARSE, CURRENT_FRAME and READ_STATUS have no state side effects, and each is idempotent: issued
again with the same operands it returns the same response (20_memory.md R58). -/
def Obligations.ReadOnlyCommandsAreIdempotent : Prop :=
  ∀ (i : Instr) (s t : State),
    (i = .crc32 ∨ (∃ tag, i = .generate tag) ∨ i = .parse ∨ i = .currentFrame ∨ i = .readStatus) →
    exec i s = .next t → t.block = s.block ∧ exec i t = .next t

/-- The block keeps no per-agent state and looks at nothing of the host's: from two states with the same block, the same
command of any two agents leaves the same block and the same port, whatever else the two states hold
(60_exceptions.md R218, R220). -/
def Obligations.BlockSeesOnlyTheCommand : Prop :=
  ∀ (a a' : Agent) (r : Request) (s s' : State), s.block = s'.block →
    ∃ t t' : State, StepsBy a r s t ∧ StepsBy a' r s' t' ∧ t.block = t'.block ∧ t.port = t'.port

/-! ### The checksum engine and the Frame Codec -/

/-- The properties of R101: the three check values, and error detection: two byte strings of the same length that differ, and whose
differing bits all lie within 32 bits of each other, have different checksums. Differing in exactly one bit is the case of
one position. That a burst is counted over bits numbered from the least significant bit of each byte, byte after byte, is
read from R72 and R100 and not said by R101 (DEDUCED, log 19). -/
def Obligations.ChecksumDetectsBursts : Prop :=
  crc32 [0x31#8, 0x32#8, 0x33#8, 0x34#8, 0x35#8, 0x36#8, 0x37#8, 0x38#8, 0x39#8] = 0xCBF43926#32 ∧
  crc32 [] = 0x00000000#32 ∧
  crc32 [0x00#8] = 0xD202EF8D#32 ∧
  (∀ (A : ByteString) (p : Nat), p < 8 * A.length → crc32 (flipBit A p) ≠ crc32 A) ∧
  ∀ (A B : ByteString) (p : Nat), A.length = B.length → A ≠ B →
    (∀ q, bitAt A q ≠ bitAt B q → p ≤ q ∧ q < p + 32) → crc32 A ≠ crc32 B

/-- R103: CRC32. -/
def Obligations.Crc32Command : Prop :=
  EncodedOnlyBy .crc32 0x01000000#32 ∧
  (∀ s : State, s.port.data = none → exec .crc32 s = .next (s.after s.block (Response.of .nullInput))) ∧
  (∀ (s : State) (B : ByteString), s.port.data = some B →
    exec .crc32 s = .next (s.after s.block { Response.of .ok with value := crc32 B })) ∧
  crc32 [] = 0x00000000#32 ∧
  crc32 [0x31#8, 0x32#8, 0x33#8, 0x34#8, 0x35#8, 0x36#8, 0x37#8, 0x38#8, 0x39#8] = 0xCBF43926#32

/-- R105: GENERATE, every status in the order of its checks, with the worked example under E0. -/
def Obligations.GenerateCommand : Prop :=
  EncodedWithTag .generate 0x02000000#32 ∧
  (∀ (s : State) (tag : U16), s.port.data = none ∨ s.port.cap = none →
    exec (.generate tag) s = .next (s.after s.block (Response.of .nullInput))) ∧
  (∀ (s : State) (tag : U16) (B : ByteString) (n : Nat), s.port.data = some B → s.port.cap = some n →
    (Config.chosen.maxFrameSize < B.length →
      exec (.generate tag) s = .next (s.after s.block (Response.of .encodeError))) ∧
    (B.length ≤ Config.chosen.maxFrameSize → n < headerSize + B.length →
      exec (.generate tag) s = .next (s.after s.block (Response.of .encodeError))) ∧
    (B.length ≤ Config.chosen.maxFrameSize → headerSize + B.length ≤ n →
      exec (.generate tag) s = .next (s.after s.block (frameResponse
        (le32 Config.chosen.preamble ++ le32 (crc32 B) ++ le16 (Config.chosen.topicOf tag) ++ le16 tag ++ B))))) ∧
  ∀ s : State, s.port.data = some [0x48#8, 0x45#8, 0x4C#8, 0x4C#8, 0x4F#8] → s.port.cap = some 64 →
    execUnder Config.e0 (.generate 0x0301#16) s = .next (s.after s.block (frameResponse
      [0x31#8, 0x4B#8, 0x53#8, 0x52#8, 0x36#8, 0x64#8, 0x44#8, 0xC1#8, 0x03#8, 0x00#8, 0x01#8, 0x03#8,
       0x48#8, 0x45#8, 0x4C#8, 0x4C#8, 0x4F#8]))

/-- R110, with R111 and R112: PARSE, every status in the order of its checks, with the worked example under E0. The topic
field is returned as received and not checked. -/
def Obligations.ParseCommand : Prop :=
  EncodedOnlyBy .parse 0x03000000#32 ∧
  (∀ s : State, s.port.data = none → exec .parse s = .next (s.after s.block (Response.of .nullInput))) ∧
  (∀ (s : State) (F : ByteString), s.port.data = some F →
    (headerSize + Config.chosen.maxFrameSize < F.length →
      exec .parse s = .next (s.after s.block (Response.of .bufferTooSmall))) ∧
    (F.length < headerSize → exec .parse s = .next (s.after s.block (Response.of .malformedHeader))) ∧
    (headerSize ≤ F.length → F.length ≤ headerSize + Config.chosen.maxFrameSize →
      (rdLe32 F 0 ≠ Config.chosen.preamble →
        exec .parse s = .next (s.after s.block (Response.of .malformedHeader))) ∧
      (rdLe32 F 0 = Config.chosen.preamble → rdLe32 F 4 ≠ crc32 (payloadOf F) →
        exec .parse s = .next (s.after s.block (Response.of .checksumMismatch))) ∧
      (rdLe32 F 0 = Config.chosen.preamble → rdLe32 F 4 = crc32 (payloadOf F) →
        exec .parse s = .next (s.after s.block
          { status := .ok, out := payloadOf F, topic := rdLe16 F 8, tag := rdLe16 F 10, value := 0#32 })))) ∧
  ∀ s : State,
    s.port.data = some
      [0x31#8, 0x4B#8, 0x53#8, 0x52#8, 0x36#8, 0x64#8, 0x44#8, 0xC1#8, 0x03#8, 0x00#8, 0x01#8, 0x03#8,
       0x48#8, 0x45#8, 0x4C#8, 0x4C#8, 0x4F#8] →
    execUnder Config.e0 .parse s = .next (s.after s.block
      { status := .ok, out := [0x48#8, 0x45#8, 0x4C#8, 0x4C#8, 0x4F#8], topic := 0x0003#16, tag := 0x0301#16,
        value := 0#32 })

/-- R11, with the layout of 30_encoding.md R72: WRAP is the header and the body, always HEADER_SIZE + |body| long, and
each field reads back at its offset. R11 defines WRAP for bodies of at most MAX_FRAME_SIZE bytes; that a longer one has the
same layout is the model's choice (log 22). -/
def Obligations.WrapLayout : Prop :=
  ∀ (c : Config) (tag : U16) (B : ByteString),
    wrap c tag B = le32 c.preamble ++ le32 (crc32 B) ++ le16 (c.topicOf tag) ++ le16 tag ++ B ∧
    (wrap c tag B).length = headerSize + B.length ∧
    rdLe32 (wrap c tag B) 0 = c.preamble ∧
    rdLe32 (wrap c tag B) 4 = crc32 B ∧
    rdLe16 (wrap c tag B) 8 = c.topicOf tag ∧
    rdLe16 (wrap c tag B) 10 = tag ∧
    payloadOf (wrap c tag B) = B

/-- R113, the round-trip law: PARSE of a generated frame returns the body and the tag. -/
def Obligations.ParseInvertsGenerate : Prop :=
  ∀ (s : State) (tag : U16) (B : ByteString), B.length ≤ Config.chosen.maxFrameSize →
    s.port.data = some (wrap Config.chosen tag B) →
    exec .parse s = .next (s.after s.block
      { status := .ok, out := B, topic := Config.chosen.topicOf tag, tag := tag, value := 0#32 })

/-- The cases of R114: what a single-bit error in a generated frame does to PARSE, by the field the flipped bit is in. Which
bit of a received tag a flipped frame bit is rests on the layout of R72 and on the bit numbering of log 19 (DEDUCED). -/
def Obligations.SingleBitErrors : Prop :=
  ∀ (s : State) (tag : U16) (B : ByteString) (p : Nat), B.length ≤ Config.chosen.maxFrameSize →
    s.port.data = some (flipBit (wrap Config.chosen tag B) p) →
    (p < 8 * 4 → exec .parse s = .next (s.after s.block (Response.of .malformedHeader))) ∧
    (8 * 4 ≤ p → p < 8 * 8 → exec .parse s = .next (s.after s.block (Response.of .checksumMismatch))) ∧
    (8 * 8 ≤ p → p < 8 * 10 → exec .parse s = .next (s.after s.block
      { status := .ok, out := B, topic := Config.chosen.topicOf tag ^^^ (1#16 <<< (p - 64)), tag := tag,
        value := 0#32 })) ∧
    (8 * 10 ≤ p → p < 8 * 12 → exec .parse s = .next (s.after s.block
      { status := .ok, out := B, topic := Config.chosen.topicOf tag, tag := tag ^^^ (1#16 <<< (p - 80)),
        value := 0#32 })) ∧
    (8 * 12 ≤ p → p < 8 * (12 + B.length) →
      exec .parse s = .next (s.after s.block (Response.of .checksumMismatch)))

/-! ### The File Transfer Engine -/

/-- R130 and R131: ADD_MESSAGE, with the worked example under E0 in the reset state. -/
def Obligations.AddMessageCommand : Prop :=
  EncodedWithTag .addMessage 0x10000000#32 ∧
  (∀ (s : State) (tag : U16), s.port.data = none →
    exec (.addMessage tag) s = .next (s.after s.block (Response.of .nullInput))) ∧
  (∀ (s : State) (tag : U16) (B : ByteString), s.port.data = some B →
    (s.block.queue.length = Config.chosen.queueDepth ∨ Config.chosen.msgStoreBytes < used s.block + B.length →
      exec (.addMessage tag) s = .next (s.after s.block (Response.of .queueFull))) ∧
    (s.block.queue.length ≠ Config.chosen.queueDepth → used s.block + B.length ≤ Config.chosen.msgStoreBytes →
      exec (.addMessage tag) s = .next
        (s.after { s.block with queue := s.block.queue ++ [⟨tag, B⟩] } (Response.of .ok)))) ∧
  ∀ (s : State) (B : ByteString), s.block = State.reset.block → B.length = 300 → s.port.data = some B →
    execUnder Config.e0 (.addMessage 0x0301#16) s = .next
      (s.after { s.block with queue := [⟨0x0301#16, B⟩] } (Response.of .ok)) ∧
    used { s.block with queue := [⟨0x0301#16, B⟩] } = 300

/-- R134: ENGINE_NEXT. With no cursor and no queue it is EMPTY. Else it takes a message and an offset, from the open cursor
or from the popped head at offset 0, cuts min(MAX_FRAME_SIZE, |b| - off) bytes, and either drops the cursor at the message
end or leaves it at off + k; the frame is retained verbatim. No other field of S changes. -/
def Obligations.EngineNextRule : Prop :=
  ∀ (c : Config) (b : Block),
    (b.curValid = false → b.queue = [] → engineNext c b = none) ∧
    (∀ (t : U16) (B : ByteString) (off k : Nat) (q : List Message),
      ((b.curValid = true ∧ t = b.curTag ∧ B = b.curBody ∧ off = b.curOff ∧ q = b.queue) ∨
        (b.curValid = false ∧ off = 0 ∧ b.queue = ⟨t, B⟩ :: q)) →
      k = min c.maxFrameSize (B.length - off) →
      (off + k = B.length → engineNext c b = some (wrap c t ((B.drop off).take k),
        { b with queue := q, curValid := false, curTag := 0#16, curBody := [], curOff := 0, retValid := true,
                 retFrame := wrap c t ((B.drop off).take k) })) ∧
      (off + k ≠ B.length → engineNext c b = some (wrap c t ((B.drop off).take k),
        { b with queue := q, curValid := true, curTag := t, curBody := B, curOff := off + k, retValid := true,
                 retFrame := wrap c t ((B.drop off).take k) })))

/-- R133: NEXT_FRAME, with the worked example under E0 after R130's. -/
def Obligations.NextFrameCommand : Prop :=
  EncodedOnlyBy .nextFrame 0x11000000#32 ∧
  (∀ s : State, s.port.cap = none → exec .nextFrame s = .next (s.after s.block (Response.of .nullInput))) ∧
  (∀ (s : State) (n : Nat), s.port.cap = some n →
    (engineNext Config.chosen s.block = none →
      exec .nextFrame s = .next (s.after s.block (Response.of .empty))) ∧
    (∀ (F : ByteString) (b' : Block), engineNext Config.chosen s.block = some (F, b') →
      (n < F.length → exec .nextFrame s = .next (s.after s.block (Response.of .bufferTooSmall))) ∧
      (F.length ≤ n → exec .nextFrame s = .next (s.after b' (frameResponse F))) ∧
      F.length ≤ headerSize + Config.chosen.maxFrameSize ∧
      b'.phase = s.block.phase ∧ b'.retry = s.block.retry ∧ b'.state = s.block.state)) ∧
  ∀ (s : State) (B : ByteString),
    s.block = { State.reset.block with queue := [⟨0x0301#16, B⟩] } →
    B = (List.range 300).map (BitVec.ofNat 8) → s.port.cap = some 112 →
    ∃ b', execUnder Config.e0 .nextFrame s = .next (s.after b' (frameResponse
        ([0x31#8, 0x4B#8, 0x53#8, 0x52#8, 0xF5#8, 0x32#8, 0xC9#8, 0x58#8, 0x03#8, 0x00#8, 0x01#8, 0x03#8] ++
          (List.range 100).map (BitVec.ofNat 8)))) ∧
      b'.curOff = 100 ∧ b'.queue = [] ∧ b'.retValid = true

/-- R136: CURRENT_FRAME; EMPTY before any frame has been produced and after exhaustion. -/
def Obligations.CurrentFrameCommand : Prop :=
  EncodedOnlyBy .currentFrame 0x12000000#32 ∧
  (∀ s : State, s.port.cap = none → exec .currentFrame s = .next (s.after s.block (Response.of .nullInput))) ∧
  (∀ (s : State) (n : Nat), s.port.cap = some n →
    s.block = State.reset.block ∨ (∃ b : Block, s.block = exhausted b) →
    exec .currentFrame s = .next (s.after s.block (Response.of .empty))) ∧
  ∀ (s : State) (n : Nat), s.port.cap = some n →
    (s.block.retValid = false → exec .currentFrame s = .next (s.after s.block (Response.of .empty))) ∧
    (s.block.retValid = true → n < s.block.retFrame.length →
      exec .currentFrame s = .next (s.after s.block (Response.of .bufferTooSmall))) ∧
    (s.block.retValid = true → s.block.retFrame.length ≤ n →
      exec .currentFrame s = .next (s.after s.block (frameResponse s.block.retFrame)))

/-- R135: how a message is cut into frames. An empty body yields one frame, 12 bytes long with checksum 0; a body of L ≥ 1 bytes
yields ⌈L / MAX_FRAME_SIZE⌉ frames, every payload but the last MAX_FRAME_SIZE long, and no byte is lost. With the message at
the head of the queue and no cursor open, as many NEXT_FRAME commands as it has frames answer exactly these frames, in
order, and leave the cursor closed and the rest of the queue waiting. -/
def Obligations.MessageYieldsItsFrames : Prop :=
  (∀ (c : Config) (tag : U16), messageFrames c ⟨tag, []⟩ = [wrap c tag []] ∧
    (wrap c tag []).length = 12 ∧ rdLe32 (wrap c tag []) 4 = 0x00000000#32) ∧
  (∀ (c : Config) (m : Message), 1 ≤ m.body.length →
    (∃ N, (messageFrames c m).length = N ∧ N * c.maxFrameSize < m.body.length + c.maxFrameSize ∧
      m.body.length ≤ N * c.maxFrameSize ∧
      (∀ (j : Nat) (F : ByteString), (messageFrames c m)[j]? = some F →
        F = wrap c m.tag (payloadOf F) ∧
        (j + 1 < N → (payloadOf F).length = c.maxFrameSize) ∧
        (j + 1 = N → (payloadOf F).length = m.body.length - (N - 1) * c.maxFrameSize))) ∧
    ((messageFrames c m).map payloadOf).flatten = m.body) ∧
  ∀ (s : State) (a : Agent) (m : Message) (rest : List Message) (n : Nat),
    s.block.curValid = false → s.block.queue = m :: rest → headerSize + Config.chosen.maxFrameSize ≤ n →
    ∃ t : State,
      Host.Core.run Sys2Proof.core (messageFrames Config.chosen m).length
        (s.withSchedule (List.replicate (messageFrames Config.chosen m).length
          (.command a (request .nextFrame none (some n))))) = .next t ∧
      t.host.responses =
        ((messageFrames Config.chosen m).map fun F => (a, frameResponse F)).reverse ++ s.host.responses ∧
      t.block.curValid = false ∧ t.block.queue = rest

/-- R132 and R138: from a block with no cursor open, NEXT_FRAME commands drain the whole queue: message after
message in queue order, each message's frames in offset order, none interleaved, and the next NEXT_FRAME after the last is
EMPTY. -/
def Obligations.QueueDrainsInOrder : Prop :=
  ∀ (s : State) (a : Agent) (n : Nat),
    s.block.curValid = false → headerSize + Config.chosen.maxFrameSize ≤ n →
    ∃ t : State,
      Host.Core.run Sys2Proof.core ((queueFrames Config.chosen s.block.queue).length + 1)
        (s.withSchedule (List.replicate ((queueFrames Config.chosen s.block.queue).length + 1)
          (.command a (request .nextFrame none (some n))))) = .next t ∧
      t.host.responses =
        (a, Response.of .empty) ::
          (((queueFrames Config.chosen s.block.queue).map fun F => (a, frameResponse F)).reverse ++
            s.host.responses) ∧
      t.block.curValid = false ∧ t.block.queue = []

/-- R137: two CURRENT_FRAME commands that answer OK return byte-identical frames when no command between them, of any
agent, writes S.ret_frame; and with no such command in between, every re-emission, by CURRENT_FRAME or by POLL in RESEND,
is bit for bit the frame that NEXT_FRAME or POLL emitted first. -/
def Obligations.RetransmissionIsIdempotent : Prop :=
  (∀ (a a' : Agent) (r r' : Request) (s t u v : State),
    decode r.word = .ok .currentFrame → decode r'.word = .ok .currentFrame →
    StepsBy a r s t → t.port.response.status = .ok →
    RunsVia (fun x q y => ¬ WritesRetained x q y) t u →
    StepsBy a' r' u v → v.port.response.status = .ok →
    v.port.response.out = t.port.response.out) ∧
  ∀ (a a' : Agent) (r r' : Request) (s t u v : State),
    StepsBy a r s t → (decode r.word = .ok .nextFrame ∧ t.port.response.status = .ok) ∨ EmitsFileFrame s r t →
    RunsVia (fun x q y => ¬ WritesRetained x q y) t u →
    StepsBy a' r' u v →
    (decode r'.word = .ok .currentFrame ∧ v.port.response.status = .ok) ∨
      (EmitsFileFrame u r' v ∧ u.block.phase = .resend) →
    v.port.response.out = t.port.response.out

/-- The message store: an accepted ADD_MESSAGE takes |body| bytes of it; ENGINE_NEXT moves a body from the queue to the
cursor at no cost and frees it when it drops the cursor; exhaustion frees the cursor's body (10_state.md R32, R134, R165). -/
def Obligations.StoreAccounting : Prop :=
  (∀ (s t : State) (tag : U16) (B : ByteString), s.port.data = some B → exec (.addMessage tag) s = .next t →
    t.port.response.status = .ok → used t.block = used s.block + B.length) ∧
  (∀ (c : Config) (b b' : Block) (F : ByteString), engineNext c b = some (F, b') →
    (b'.curValid = true → used b' = used b) ∧
    (b'.curValid = false →
      ∃ B, used b = used b' + B.length ∧
        ((b.curValid = true ∧ B = b.curBody) ∨ (b.curValid = false ∧ ∃ t q, b.queue = ⟨t, B⟩ :: q)))) ∧
  ∀ (i : Instr) (s t : State), exec i s = .next t → t.port.response.status = .retryExhausted →
    used t.block + (if s.block.curValid then s.block.curBody.length else 0) = used s.block

/-! ### The arbiter -/

/-- R150: POLL, every branch of its pseudocode in order, with the worked example under E0. -/
def Obligations.PollCommand : Prop :=
  EncodedOnlyBy .poll 0x20000000#32 ∧
  (∀ s : State, s.port.cap = none → exec .poll s = .next (s.after s.block (Response.of .nullInput))) ∧
  (∀ (s : State) (n : Nat), s.port.cap = some n →
    (s.block.halted = true ∨ s.block.state = .idle ∨ s.block.state = .suspended →
      exec .poll s = .next (s.after s.block (Response.of .empty))) ∧
    (s.block.halted = false → s.block.state = .activePass ∨ s.block.state = .fileTransferActive →
      s.block.ctrlValid = true →
      (n < (ctrlFrame Config.chosen s.block.ctrlKind).length →
        exec .poll s = .next (s.after s.block (Response.of .bufferTooSmall))) ∧
      ((ctrlFrame Config.chosen s.block.ctrlKind).length ≤ n →
        exec .poll s = .next (s.after { s.block with ctrlValid := false }
          (frameResponse (ctrlFrame Config.chosen s.block.ctrlKind))))) ∧
    (s.block.halted = false → s.block.state = .activePass → s.block.ctrlValid = false →
      exec .poll s = .next (s.after s.block (Response.of .empty))) ∧
    (s.block.halted = false → s.block.state = .fileTransferActive → s.block.ctrlValid = false →
      (s.block.phase = .await → exec .poll s = .next (s.after s.block (Response.of .empty))) ∧
      (s.block.phase = .resend →
        (n < s.block.retFrame.length → exec .poll s = .next (s.after s.block (Response.of .bufferTooSmall))) ∧
        (s.block.retFrame.length ≤ n →
          exec .poll s = .next (s.after { s.block with phase := .await } (frameResponse s.block.retFrame)))) ∧
      (s.block.phase = .ready →
        (engineNext Config.chosen s.block = none →
          exec .poll s = .next (s.after s.block (Response.of .empty))) ∧
        (∀ (F : ByteString) (b' : Block), engineNext Config.chosen s.block = some (F, b') →
          (n < F.length → exec .poll s = .next (s.after s.block (Response.of .bufferTooSmall))) ∧
          (F.length ≤ n → exec .poll s = .next (s.after { b' with phase := .await } (frameResponse F))))))) ∧
  ∀ s : State, s.block.halted = false → s.block.state = .fileTransferActive → s.block.ctrlValid = false →
    s.block.phase = .ready → s.block.curValid = false →
    s.block.queue = [⟨0x0301#16, [0x48#8, 0x45#8, 0x4C#8, 0x4C#8, 0x4F#8]⟩] → s.port.cap = some 64 →
    ∃ b', execUnder Config.e0 .poll s = .next (s.after b' (frameResponse b'.retFrame)) ∧ b'.phase = .await ∧
      b'.retFrame =
        [0x31#8, 0x4B#8, 0x53#8, 0x52#8, 0x36#8, 0x64#8, 0x44#8, 0xC1#8, 0x03#8, 0x00#8, 0x01#8, 0x03#8,
         0x48#8, 0x45#8, 0x4C#8, 0x4C#8, 0x4F#8]

/-- R170, the preemption law: a pending control response goes out ahead of any file-transfer frame, whatever the phase and
the queue hold. What such a POLL emits is the control frame or nothing, in every state and with every capacity; where the
control frame cannot go out (halted, IDLE, SUSPENDED, no capacity, or one too small for it) nothing goes out in its place
and it stays pending. -/
def Obligations.ControlPreemptsBulkData : Prop :=
  (∀ s t : State, s.block.ctrlValid = true → exec .poll s = .next t →
    (t.port.response.status = .ok ∧ t.port.response.out = ctrlFrame Config.chosen s.block.ctrlKind ∨
      t.port.response.status ≠ .ok ∧ t.port.response.out = []) ∧
    t.block.phase = s.block.phase ∧ t.block.retry = s.block.retry ∧ t.block.queue = s.block.queue ∧
    t.block.curOff = s.block.curOff ∧
    t.block.retFrame = s.block.retFrame) ∧
  (∀ s : State, s.block.ctrlValid = true →
    s.block.halted = true ∨ s.block.state = .idle ∨ s.block.state = .suspended ∨ s.port.cap = none ∨
      (∃ n, s.port.cap = some n ∧ n < (ctrlFrame Config.chosen s.block.ctrlKind).length) →
    ∃ t : State, exec .poll s = .next t ∧ t.port.response.status ≠ .ok ∧ t.port.response.out = [] ∧
      t.block = s.block) ∧
  ∀ (s : State) (n : Nat), s.block.state = .activePass ∨ s.block.state = .fileTransferActive →
    s.block.halted = false → s.block.ctrlValid = true → s.port.cap = some n →
    headerSize + Config.chosen.maxFrameSize ≤ n →
    exec .poll s = .next (s.after { s.block with ctrlValid := false }
      (frameResponse (match s.block.ctrlKind with
        | .ack => wrap Config.chosen Config.chosen.ackTag Config.chosen.ackBody
        | .nack => wrap Config.chosen Config.chosen.nackTag Config.chosen.nackBody)))

/-- R155: SEND_ACK, with the worked example under E0. -/
def Obligations.SendAckCommand : Prop :=
  EncodedOnlyBy .sendAck 0x21000000#32 ∧
  (∀ s : State, exec .sendAck s =
    .next (s.after { s.block with ctrlValid := true, ctrlKind := .ack } (Response.of .ok))) ∧
  ∃ s₁ s₂ s₃ : State, execUnder Config.e0 .sendAck State.reset = .next s₁ ∧
    execUnder Config.e0 .beginPass s₁ = .next s₂ ∧
    execUnder Config.e0 .poll (s₂.latch (request .poll none (some 64))) = .next s₃ ∧
    s₃.port.response = frameResponse
      [0x31#8, 0x4B#8, 0x53#8, 0x52#8, 0x8D#8, 0xEF#8, 0x02#8, 0xD2#8, 0x01#8, 0x00#8, 0x01#8, 0x01#8, 0x00#8]

/-- R156: SEND_NACK, with the worked example under E0. -/
def Obligations.SendNackCommand : Prop :=
  EncodedOnlyBy .sendNack 0x22000000#32 ∧
  (∀ s : State, exec .sendNack s =
    .next (s.after { s.block with ctrlValid := true, ctrlKind := .nack } (Response.of .ok))) ∧
  ∃ s₁ s₂ s₃ : State, execUnder Config.e0 .sendNack State.reset = .next s₁ ∧
    execUnder Config.e0 .beginPass s₁ = .next s₂ ∧
    execUnder Config.e0 .poll (s₂.latch (request .poll none (some 64))) = .next s₃ ∧
    s₃.port.response = frameResponse
      [0x31#8, 0x4B#8, 0x53#8, 0x52#8, 0x8D#8, 0xEF#8, 0x02#8, 0xD2#8, 0x01#8, 0x00#8, 0x02#8, 0x01#8, 0x00#8]

/-- R160: ACK_RECEIVED. -/
def Obligations.AckReceivedCommand : Prop :=
  EncodedOnlyBy .ackReceived 0x30000000#32 ∧
  (∀ s : State, s.block.state = .idle ∨ s.block.state = .suspended →
    exec .ackReceived s = .next (s.after s.block (Response.of .ignored))) ∧
  ∀ s : State, s.block.state = .activePass ∨ s.block.state = .fileTransferActive →
    exec .ackReceived s = .next (s.after { s.block with retry := 0#8, phase := .ready } (Response.of .ok))

/-- R163, with R164 and R165: NACK_RECEIVED, with the worked example under E0. The block after exhaustion is written out in
`exhausted`. With RETRY_MAX = 0 the first NACK exhausts; with no retained frame a NACK counts but schedules nothing. -/
def Obligations.NackReceivedCommand : Prop :=
  EncodedOnlyBy .nackReceived 0x31000000#32 ∧
  (∀ s : State, s.block.state = .idle ∨ s.block.state = .suspended →
    exec .nackReceived s = .next (s.after s.block (Response.of .ignored))) ∧
  (∀ s : State, s.block.state = .activePass ∨ s.block.state = .fileTransferActive →
    exec .nackReceived s = .next
      (if Config.chosen.retryMax < s.block.retry.toNat + 1
        then s.after (exhausted s.block) (Response.of .retryExhausted)
        else s.after { s.block with retry := s.block.retry + 1#8,
                                    phase := if s.block.retValid = true then .resend else s.block.phase }
          (Response.of .ok))) ∧
  (∀ (c : Config) (s : State), c.retryMax = 0 → s.block.state = .activePass ∨ s.block.state = .fileTransferActive →
    execUnder c .nackReceived s = .next (s.after (exhausted s.block) (Response.of .retryExhausted))) ∧
  ∀ s : State, s.block.state = .fileTransferActive → s.block.phase = .await → s.block.retry = 0#8 →
    s.block.retValid = true →
    execUnder Config.e0 .nackReceived s = .next
      (s.after { s.block with retry := 1#8, phase := .resend } (Response.of .ok))

/-- R167: ACK_TIMEOUT, whose result is identical to NACK_RECEIVED's, with the worked example under E0. -/
def Obligations.AckTimeoutCommand : Prop :=
  EncodedOnlyBy .ackTimeout 0x32000000#32 ∧
  (∀ s : State, exec .ackTimeout s = exec .nackReceived s) ∧
  (∀ s : State, s.block.state = .idle ∨ s.block.state = .suspended →
    exec .ackTimeout s = .next (s.after s.block (Response.of .ignored))) ∧
  (∀ s : State, s.block.state = .activePass ∨ s.block.state = .fileTransferActive →
    exec .ackTimeout s = .next
      (if Config.chosen.retryMax < s.block.retry.toNat + 1
        then s.after (exhausted s.block) (Response.of .retryExhausted)
        else s.after { s.block with retry := s.block.retry + 1#8,
                                    phase := if s.block.retValid = true then .resend else s.block.phase }
          (Response.of .ok))) ∧
  ∀ s : State, s.block.state = .fileTransferActive → s.block.retry = 3#8 → s.block.phase = .await →
    execUnder Config.e0 .ackTimeout s = .next (s.after (exhausted s.block) (Response.of .retryExhausted))

/-- The stop-and-wait law as the command rules have it: a POLL that emits a file-transfer frame leaves the phase AWAIT, and
while the phase is AWAIT no POLL emits a file-transfer frame until an ACK_RECEIVED, NACK_RECEIVED, ACK_TIMEOUT or
PASS_ELAPSED that is not IGNORED intervenes (R150, R160, R164, R165, R190). It differs from R168's wording in counting an
exhausting NACK_RECEIVED or ACK_TIMEOUT (log 15). -/
def Obligations.StopAndWait : Prop :=
  (∀ (a : Agent) (r : Request) (s t : State), StepsBy a r s t → EmitsFileFrame s r t → t.block.phase = .await) ∧
  ∀ (s u v : State) (a : Agent) (r : Request), s.block.phase = .await →
    RunsVia (fun x q y => ¬ EndsWait x q y) s u →
    u.block.phase = .await ∧ (StepsBy a r u v → ¬ EmitsFileFrame u r v)

/-- R168 as it is worded, for states that meet the invariants. It is expected to FAIL: it does not list an exhausting
NACK_RECEIVED or ACK_TIMEOUT among the commands that end the wait, and after one, BEGIN_PASS, BEGIN_FILE_TRANSFER and POLL
emit the next message's frame (R165; log 15). -/
def Obligations.StopAndWaitAsWorded : Prop :=
  ∀ (a a' : Agent) (r r' : Request) (s t u v : State), s.Inv →
    StepsBy a r s t → EmitsFileFrame s r t →
    RunsVia (fun x q y => ¬ EndsWaitAsWorded x q y) t u →
    StepsBy a' r' u v → ¬ EmitsFileFrame u r' v

/-- R169: exhaustion is reported once. After RETRY_EXHAUSTED the state is IDLE, and after any commands but BEGIN_PASS every
further NACK_RECEIVED and ACK_TIMEOUT answers IGNORED. -/
def Obligations.ExhaustionReportedOnce : Prop :=
  ∀ (a : Agent) (r : Request) (s t u : State), StepsBy a r s t → t.port.response.status = .retryExhausted →
    RunsVia (fun _ q _ => decode q.word ≠ .ok .beginPass) t u →
    t.block.state = .idle ∧
    exec .nackReceived u = .next (u.after u.block (Response.of .ignored)) ∧
    exec .ackTimeout u = .next (u.after u.block (Response.of .ignored))

/-- The retry ceiling (R164; 70_reset_and_hazards.md R259). In any run of commands, legal or illegal, with no ACK_RECEIVED,
BEGIN_FILE_TRANSFER or PASS_ELAPSED: each retransmission is paid for by a NACK_RECEIVED or ACK_TIMEOUT that answered OK, or
by the RESEND the run began with; there are at most RETRY_MAX less the counter of them, and one more if the run began in
RESEND, which R182 allows at retry 0 (DEDUCED, log 23); and until exhaustion the counter rises by exactly the retries. In
contact, and without CEASE_TRANSMISSION, k retry commands are all allowed and the state stays while retry + k is at most RETRY_MAX. At
RETRY_MAX the next one exhausts. -/
def Obligations.RetryCeiling : Prop :=
  (∀ (s u : State) (l : List Exchange), RunsBy l s u → (∀ x ∈ l, Consecutive x.req.word) →
    l.countP Exchange.retransmits ≤
      l.countP Exchange.retries + (if s.block.phase = .resend then 1 else 0) ∧
    l.countP Exchange.retransmits ≤
      (Config.chosen.retryMax - s.block.retry.toNat) + (if s.block.phase = .resend then 1 else 0) ∧
    ((∀ x ∈ l, x.left.port.response.status ≠ .retryExhausted) →
      u.block.retry.toNat = s.block.retry.toNat + l.countP Exchange.retries)) ∧
  (∀ (s : State) (cmds : List (Agent × Request)) (k : Nat),
    s.block.state = .activePass ∨ s.block.state = .fileTransferActive →
    (∀ x ∈ cmds, Consecutive x.2.word ∧ decode x.2.word ≠ .ok .ceaseTransmission) →
    k = (cmds.filter fun x => x.2.word = encode .nackReceived ∨ x.2.word = encode .ackTimeout).length →
    s.block.retry.toNat + k ≤ Config.chosen.retryMax →
    ∃ t : State,
      Host.Core.run Sys2Proof.core cmds.length (s.withSchedule (cmds.map fun x => .command x.1 x.2)) = .next t ∧
      t.block.retry.toNat = s.block.retry.toNat + k ∧ t.block.state = s.block.state ∧
      ∀ x ∈ t.host.responses, x ∈ s.host.responses ∨ x.2.status ≠ .retryExhausted) ∧
  ∀ s : State, s.block.state = .activePass ∨ s.block.state = .fileTransferActive →
    s.block.retry.toNat = Config.chosen.retryMax →
    exec .nackReceived s = .next (s.after (exhausted s.block) (Response.of .retryExhausted)) ∧
    exec .ackTimeout s = .next (s.after (exhausted s.block) (Response.of .retryExhausted))

/-- R257: a POLL whose capacity is smaller than the frame it would emit answers BUFFER_TOO_SMALL and consumes nothing, and
fails again every time; with a control response pending nothing else is emitted; a capacity of HEADER_SIZE +
MAX_FRAME_SIZE is always enough, in every state that meets the invariants. -/
def Obligations.PollCapacity : Prop :=
  (∀ s t : State, exec .poll s = .next t → t.port.response.status = .bufferTooSmall →
    t.block = s.block ∧ t.port.response.out = [] ∧ exec .poll t = .next t) ∧
  (∀ (s t : State) (m n : Nat), exec .poll (s.latch (request .poll none (some m))) = .next t →
    t.port.response.status = .ok → n < t.port.response.out.length →
    exec .poll (s.latch (request .poll none (some n))) =
      .next ((s.latch (request .poll none (some n))).after s.block (Response.of .bufferTooSmall))) ∧
  (∀ (s : State) (n : Nat), s.block.state = .activePass ∨ s.block.state = .fileTransferActive →
    s.block.halted = false → s.block.ctrlValid = true → s.port.cap = some n →
    n < (ctrlFrame Config.chosen s.block.ctrlKind).length →
    exec .poll s = .next (s.after s.block (Response.of .bufferTooSmall))) ∧
  ∀ (s t : State) (n : Nat), s.Inv → s.port.cap = some n → headerSize + Config.chosen.maxFrameSize ≤ n →
    exec .poll s = .next t → t.port.response.status ≠ .bufferTooSmall

/-- R256: only one control response can be pending. The second of two requests replaces the first, and the next POLL
downlinks the second alone. -/
def Obligations.LatestControlRequestWins : Prop :=
  ∀ (s : State) (a₁ a₂ a₃ a₄ : Agent) (i₁ i₂ : Instr) (n : Nat),
    i₁ = .sendAck ∨ i₁ = .sendNack → i₂ = .sendAck ∨ i₂ = .sendNack →
    s.block.state = .activePass → s.block.halted = false → headerSize + Config.chosen.maxFrameSize ≤ n →
    ∃ t : State,
      Host.Core.run Sys2Proof.core 4 (s.withSchedule
        [.command a₁ (request i₁ none none), .command a₂ (request i₂ none none),
         .command a₃ (request .poll none (some n)), .command a₄ (request .poll none (some n))]) = .next t ∧
      t.host.responses =
        [(a₄, Response.of .empty),
         (a₃, frameResponse (ctrlFrame Config.chosen (if i₂ = .sendAck then .ack else .nack))),
         (a₂, Response.of .ok), (a₁, Response.of .ok)] ++ s.host.responses

/-- R253: NEXT_FRAME bypasses the arbiter. Issued while a frame is in flight, it overwrites the retained frame, so the
resend that a NACK asks for is NEXT_FRAME's frame, not the one POLL sent. (Where that NACK exhausts, R164, nothing is
re-sent.) -/
def Obligations.NextFrameBypassesArbiter : Prop :=
  ∀ (s : State) (a₁ a₂ a₃ : Agent) (n : Nat) (F : ByteString) (b' : Block),
    s.block.state = .fileTransferActive → s.block.halted = false → s.block.ctrlValid = false →
    engineNext Config.chosen s.block = some (F, b') → headerSize + Config.chosen.maxFrameSize ≤ n →
    ∃ t : State,
      Host.Core.run Sys2Proof.core 3 (s.withSchedule
        [.command a₁ (request .nextFrame none (some n)), .command a₂ (request .nackReceived none none),
         .command a₃ (request .poll none (some n))]) = .next t ∧
      if Config.chosen.retryMax < s.block.retry.toNat + 1 then
        t.host.responses =
          [(a₃, Response.of .empty), (a₂, Response.of .retryExhausted), (a₁, frameResponse F)] ++ s.host.responses
      else
        t.host.responses =
          [(a₃, frameResponse F), (a₂, Response.of .ok), (a₁, frameResponse F)] ++ s.host.responses ∧
        t.block.phase = .await ∧ t.block.queue = b'.queue ∧ t.block.curValid = b'.curValid ∧
        t.block.curOff = b'.curOff

/-- R255: pass expiry loses the frame in flight. PASS_ELAPSED leaves the phase READY, and after BEGIN_PASS and
BEGIN_FILE_TRANSFER the first POLL emits the next chunk, not the unacknowledged frame, which is still retained until then;
if a NACK asks for it first, the POLL re-sends it. (With RETRY_MAX = 0 that NACK exhausts, R164, and the POLL is EMPTY.) -/
def Obligations.PassExpiryLosesFrameInFlight : Prop :=
  ∀ (s : State) (a : Agent) (n : Nat),
    s.block.state = .fileTransferActive → s.block.phase = .await → s.block.halted = false →
    s.block.ctrlValid = false → s.block.retValid = true →
    headerSize + Config.chosen.maxFrameSize ≤ n → s.block.retFrame.length ≤ n →
    (∀ (F : ByteString) (b' : Block), engineNext Config.chosen s.block = some (F, b') →
      ∃ t u : State,
        Host.Core.run Sys2Proof.core 3 (s.withSchedule
          [.command a (request .passElapsed none none), .command a (request .beginPass none none),
           .command a (request .beginFileTransfer none none),
           .command a (request .poll none (some n))]) = .next t ∧
        t.block.phase = .ready ∧ t.block.retValid = true ∧ t.block.retFrame = s.block.retFrame ∧
        step t = .next u ∧ u.port.response = frameResponse F) ∧
    ∃ t : State,
      Host.Core.run Sys2Proof.core 5 (s.withSchedule
        [.command a (request .passElapsed none none), .command a (request .beginPass none none),
         .command a (request .nackReceived none none), .command a (request .beginFileTransfer none none),
         .command a (request .poll none (some n))]) = .next t ∧
      t.port.response =
        (if Config.chosen.retryMax = 0 then Response.of .empty else frameResponse s.block.retFrame)

/-- In FILE_TRANSFER_ACTIVE with nothing in flight, POLL and ACK_RECEIVED in turn stream the whole queue, each frame once, in
the order of `queueFrames`; TX transmits exactly these frames; at the end the queue is empty, the cursor closed, the phase
READY and the retry counter 0 (R134, R150, R160, R226; 70_reset_and_hazards.md R244, R259). That TX transmits in the step of
its POLL is the model's reading (DEDUCED, log 11). -/
def Obligations.AcknowledgedStreamDeliversQueue : Prop :=
  ∀ (s : State) (a : Agent) (n : Nat),
    s.block.state = .fileTransferActive → s.block.halted = false → s.block.ctrlValid = false →
    s.block.phase = .ready → s.block.retry = 0#8 → s.block.curValid = false →
    headerSize + Config.chosen.maxFrameSize ≤ n →
    ∃ t : State,
      Host.Core.run Sys2Proof.core (2 * (queueFrames Config.chosen s.block.queue).length)
        (s.withSchedule ((queueFrames Config.chosen s.block.queue).flatMap fun _ =>
          [.command .tx (request .poll none (some n)), .command a (request .ackReceived none none)])) = .next t ∧
      t.host.transmitted = (queueFrames Config.chosen s.block.queue).reverse ++ s.host.transmitted ∧
      t.block.queue = [] ∧ t.block.curValid = false ∧ t.block.phase = .ready ∧ t.block.retry = 0#8 ∧
      t.block.state = .fileTransferActive

/-! ### The session -/

/-- R180: BEGIN_PASS. -/
def Obligations.BeginPassCommand : Prop :=
  EncodedOnlyBy .beginPass 0x40000000#32 ∧
  (∀ s : State, s.block.state ≠ .idle → exec .beginPass s = .next (s.after s.block (Response.of .ignored))) ∧
  ∀ s : State, s.block.state = .idle →
    exec .beginPass s = .next (s.after { s.block with state := .activePass } (Response.of .ok))

/-- R182: BEGIN_FILE_TRANSFER; the phase is not changed, so where an earlier NACK left RESEND the first file-transfer POLL
re-emits the retained frame. -/
def Obligations.BeginFileTransferCommand : Prop :=
  EncodedOnlyBy .beginFileTransfer 0x41000000#32 ∧
  (∀ s : State, s.block.state ≠ .activePass →
    exec .beginFileTransfer s = .next (s.after s.block (Response.of .ignored))) ∧
  (∀ s : State, s.block.state = .activePass →
    exec .beginFileTransfer s =
      .next (s.after { s.block with state := .fileTransferActive, retry := 0#8 } (Response.of .ok))) ∧
  ∀ (s : State) (n : Nat), s.block.state = .activePass → s.block.phase = .resend → s.block.halted = false →
    s.block.ctrlValid = false → s.block.retFrame.length ≤ n →
    ∃ t : State, exec .beginFileTransfer s = .next t ∧
      exec .poll (t.latch (request .poll none (some n))) =
        .next ((t.latch (request .poll none (some n))).after { t.block with phase := .await }
          (frameResponse s.block.retFrame))

/-- R184: CEASE_TRANSMISSION. -/
def Obligations.CeaseTransmissionCommand : Prop :=
  EncodedOnlyBy .ceaseTransmission 0x42000000#32 ∧
  (∀ s : State, s.block.state = .idle ∨ s.block.state = .suspended →
    exec .ceaseTransmission s = .next (s.after s.block (Response.of .ignored))) ∧
  (∀ s : State, s.block.state = .activePass →
    exec .ceaseTransmission s =
      .next (s.after { s.block with prev := .activePass, state := .suspended } (Response.of .ok))) ∧
  ∀ s : State, s.block.state = .fileTransferActive →
    exec .ceaseTransmission s =
      .next (s.after { s.block with prev := .fileTransferActive, state := .suspended } (Response.of .ok))

/-- R186: RESUME_TRANSMISSION. -/
def Obligations.ResumeTransmissionCommand : Prop :=
  EncodedOnlyBy .resumeTransmission 0x43000000#32 ∧
  (∀ s : State, s.block.state ≠ .suspended →
    exec .resumeTransmission s = .next (s.after s.block (Response.of .ignored))) ∧
  ∀ s : State, s.block.state = .suspended →
    (s.block.prev = .fileTransferActive →
      exec .resumeTransmission s = .next (s.after { s.block with state := .fileTransferActive } (Response.of .ok))) ∧
    (s.block.prev = .activePass →
      exec .resumeTransmission s = .next (s.after { s.block with state := .activePass } (Response.of .ok)))

/-- R188: SUSPEND_ELAPSED. -/
def Obligations.SuspendElapsedCommand : Prop :=
  EncodedOnlyBy .suspendElapsed 0x44000000#32 ∧
  (∀ s : State, exec .suspendElapsed s = exec .resumeTransmission s) ∧
  (∀ s : State, s.block.state ≠ .suspended →
    exec .suspendElapsed s = .next (s.after s.block (Response.of .ignored))) ∧
  ∀ s : State, s.block.state = .suspended →
    (s.block.prev = .fileTransferActive →
      exec .suspendElapsed s = .next (s.after { s.block with state := .fileTransferActive } (Response.of .ok))) ∧
    (s.block.prev = .activePass →
      exec .suspendElapsed s = .next (s.after { s.block with state := .activePass } (Response.of .ok)))

/-- R190: PASS_ELAPSED; SUSPENDED counts as an active state, and only the retry state is dropped. -/
def Obligations.PassElapsedCommand : Prop :=
  EncodedOnlyBy .passElapsed 0x45000000#32 ∧
  (∀ s : State, s.block.state = .idle → exec .passElapsed s = .next (s.after s.block (Response.of .ignored))) ∧
  ∀ s : State, s.block.state ≠ .idle →
    exec .passElapsed s =
      .next (s.after { s.block with state := .idle, retry := 0#8, phase := .ready } (Response.of .ok))

/-- R193: RESET_SAT. While halted POLL returns EMPTY whatever is pending (a null buffer is still NULL_INPUT), every other
command acts as usual, and no command clears S.halted. (READ_STATUS acts as usual too: its value has the HALTED bit set.) -/
def Obligations.ResetSatCommand : Prop :=
  EncodedOnlyBy .resetSat 0x46000000#32 ∧
  (∀ s : State, exec .resetSat s = .next (s.after { s.block with halted := true } (Response.of .ok))) ∧
  (∀ (s : State) (n : Nat), s.block.halted = true → s.port.cap = some n →
    exec .poll s = .next (s.after s.block (Response.of .empty))) ∧
  (∀ (i : Instr) (s t : State), i ≠ .poll → i ≠ .readStatus → exec i s = .next t →
    exec i s.halt = .next t.halt) ∧
  (∀ s : State, exec .readStatus s.halt =
    .next (s.halt.after s.halt.block { Response.of .ok with value := statusWord s.block ||| 0x00000008#32 })) ∧
  ∀ (i : Instr) (s t : State), s.block.halted = true → exec i s = .next t → t.block.halted = true

/-- R25: once set, S.halted stays 1 under every step but a block reset, and while it is 1 POLL produces no frame. -/
def Obligations.HaltedUntilReset : Prop :=
  State.reset.block.halted = false ∧
  (∀ s t : State, exec .resetSat s = .next t → t.block.halted = true) ∧
  (∀ s t : State, s.block.halted = true → (∀ rest, s.host.schedule ≠ .reset :: rest) → step s = .next t →
    t.block.halted = true) ∧
  ∀ s t : State, s.block.halted = true → exec .poll s = .next t →
    t.port.response.status ≠ .ok ∧ t.port.response.out = [] ∧ t.block = s.block

/-- R196 and R34: READ_STATUS returns the status word, and each field of it reads its source field; bits 15:10 read 0; with
both worked examples.
|S.queue| fits its 8 bits (INV1 and QUEUE_DEPTH ≤ 255). -/
def Obligations.ReadStatusCommand : Prop :=
  EncodedOnlyBy .readStatus 0x50000000#32 ∧
  (∀ s : State, exec .readStatus s =
    .next (s.after s.block { Response.of .ok with value := statusWord s.block })) ∧
  (∀ b : Block, b.queue.length ≤ 255 →
    (statusWord b).extractLsb' 0 2 = b.state.code ∧
    (statusWord b).extractLsb' 2 1 = b.prev.code ∧
    (statusWord b).getLsbD 3 = b.halted ∧
    (statusWord b).extractLsb' 4 2 = b.phase.code ∧
    (statusWord b).getLsbD 6 = b.ctrlValid ∧
    (statusWord b).extractLsb' 7 1 = b.ctrlKind.code ∧
    (statusWord b).getLsbD 8 = b.curValid ∧
    (statusWord b).getLsbD 9 = b.retValid ∧
    (statusWord b).extractLsb' 10 6 = 0#6 ∧
    (statusWord b).extractLsb' 16 8 = b.retry ∧
    ((statusWord b).extractLsb' 24 8).toNat = b.queue.length) ∧
  (Lifecycle.idle.code = 0#2 ∧ Lifecycle.activePass.code = 1#2 ∧ Lifecycle.fileTransferActive.code = 2#2 ∧
    Lifecycle.suspended.code = 3#2) ∧
  (PrevActive.activePass.code = 0#1 ∧ PrevActive.fileTransferActive.code = 1#1 ∧ CtrlKind.ack.code = 0#1 ∧
    CtrlKind.nack.code = 1#1) ∧
  (Phase.ready.code = 0#2 ∧ Phase.await.code = 1#2 ∧ Phase.resend.code = 2#2) ∧
  statusWord State.reset.block = 0x00000000#32 ∧
  ∀ b : Block, b.state = .fileTransferActive → b.prev = .activePass → b.halted = false → b.phase = .await →
    b.ctrlValid = false → b.ctrlKind = .ack → b.curValid = true → b.retValid = true → b.retry = 1#8 →
    b.queue.length = 2 → statusWord b = 0x02010312#32

/-- R197: the lifecycle table. An event does what its row says, and one with no row for the current state is IGNORED; no
other command changes the lifecycle state; no transition leaves FILE_TRANSFER_ACTIVE for ACTIVE_PASS. -/
def Obligations.LifecycleTable : Prop :=
  (∀ (i : Instr) (s : State), isEvent i = true →
    exec i s = .next (match lifecycleRow Config.chosen i s.block with
      | some (b', st) => s.after b' (Response.of st)
      | none => s.after s.block (Response.of .ignored))) ∧
  (∀ (i : Instr) (s t : State), isEvent i = false → exec i s = .next t → t.block.state = s.block.state) ∧
  ∀ (i : Instr) (s t : State), exec i s = .next t → s.block.state = .fileTransferActive →
    t.block.state ≠ .activePass

/-! ### The host agents -/

/-- R226: TX transmits the `out` bytes of its POLL unchanged, and transmits nothing when POLL emits nothing; no other
command of TX, and no event of another agent, a POLL among them, transmits anything. That TX transmits in the step of its
POLL, and that no other agent transmits, is the model's reading (DEDUCED, log 11). -/
def Obligations.TxTransmitsWhatPollReturns : Prop :=
  (∀ (r : Request) (s t : State), decode r.word = .ok .poll → StepsBy .tx r s t →
    (t.port.response.status = .ok →
      t.host.transmitted = t.port.response.out :: s.host.transmitted) ∧
    (t.port.response.status ≠ .ok → t.host.transmitted = s.host.transmitted)) ∧
  (∀ (r : Request) (s t : State), decode r.word ≠ .ok .poll → StepsBy .tx r s t →
    t.host.transmitted = s.host.transmitted) ∧
  ∀ (ev : HostEvent) (s t : State), (∀ r : Request, ev ≠ .command .tx r) → step (s.withSchedule [ev]) = .next t →
    t.host.transmitted = s.host.transmitted

/-- R228, the uplink procedure, from every state. When RX is free and bytes are waiting, its turn issues PARSE and keeps
the response; when it holds a response, its turn does what `uplinkOutcome` says: the one command, the pair it returns, what
it hands on. Between the two turns other agents' commands may come (R250): the second part holds from every state. -/
def Obligations.UplinkProcedure : Prop :=
  (∀ (s : State) (bytes : ByteString) (rest : List ByteString), s.host.rxReply = none →
    s.host.rxInbox = bytes :: rest →
    ∃ t u : State, exec .parse (s.latch (request .parse (some bytes) none)) = .next u ∧
      step (s.withSchedule [.rxTurn]) = .next t ∧ t.block = s.block ∧ t.port = u.port ∧
      t.host.rxReply = some u.port.response ∧ t.host.rxInbox = rest ∧
      t.host.uplinkResults = s.host.uplinkResults ∧ t.host.delegated = s.host.delegated) ∧
  ∀ (s : State) (r : Response), s.host.rxReply = some r →
    ∃ t : State, step (s.withSchedule [.rxTurn]) = .next t ∧ t.host.rxReply = none ∧
      t.host.rxInbox = s.host.rxInbox ∧
      t.host.uplinkResults = (uplinkOutcome HostServices.chosen r).1 :: s.host.uplinkResults ∧
      t.host.delegated = (uplinkOutcome HostServices.chosen r).2.2 ++ s.host.delegated ∧
      match (uplinkOutcome HostServices.chosen r).2.1 with
      | none => t.block = s.block ∧ t.host.responses = s.host.responses
      | some i => ∃ u : State, exec i (s.latch (request i none none)) = .next u ∧ t.block = u.block ∧
          t.host.responses = (.rx, u.port.response) :: s.host.responses

/-- A block reset leaves the command port and the host side as they were, but for the schedule it came from. R240 says what
becomes of S only: this clause is the model's choice (DEDUCED, log 7). -/
def Obligations.BlockResetKeepsPortAndHost : Prop :=
  ∀ (s : State) (rest : List HostEvent), s.host.schedule = .reset :: rest →
    step s = .next { (s.withSchedule rest) with block := State.reset.block }
end

