-- ==== Sys2Proof/Laws/State.lean ====
section
/-! SUPPORT. One lemma per field per update of the state, true by rfl, so that no later proof unfolds an update. -/

namespace Sys2Proof.Machine

/-! ### `State.complete`, `State.after` -/

@[simp] theorem State.complete_block (s : State) (p : Result) : (s.complete p).block = p.1 := rfl
@[simp] theorem State.complete_response (s : State) (p : Result) : (s.complete p).port.response = p.2 := rfl
@[simp] theorem State.complete_word (s : State) (p : Result) : (s.complete p).port.word = s.port.word := rfl
@[simp] theorem State.complete_data (s : State) (p : Result) : (s.complete p).port.data = s.port.data := rfl
@[simp] theorem State.complete_cap (s : State) (p : Result) : (s.complete p).port.cap = s.port.cap := rfl
@[simp] theorem State.complete_host (s : State) (p : Result) : (s.complete p).host = s.host := rfl

theorem State.complete_eq_after (s : State) (p : Result) : s.complete p = s.after p.1 p.2 := rfl

@[simp] theorem State.after_block (s : State) (b : Block) (r : Response) : (s.after b r).block = b := rfl
@[simp] theorem State.after_response (s : State) (b : Block) (r : Response) : (s.after b r).port.response = r := rfl
@[simp] theorem State.after_word (s : State) (b : Block) (r : Response) : (s.after b r).port.word = s.port.word := rfl
@[simp] theorem State.after_data (s : State) (b : Block) (r : Response) : (s.after b r).port.data = s.port.data := rfl
@[simp] theorem State.after_cap (s : State) (b : Block) (r : Response) : (s.after b r).port.cap = s.port.cap := rfl
@[simp] theorem State.after_host (s : State) (b : Block) (r : Response) : (s.after b r).host = s.host := rfl

/-! ### `State.halt` -/

@[simp] theorem State.halt_block (s : State) : s.halt.block = { s.block with halted := true } := rfl
@[simp] theorem State.halt_port (s : State) : s.halt.port = s.port := rfl
@[simp] theorem State.halt_host (s : State) : s.halt.host = s.host := rfl

/-! ### `State.latch` -/

@[simp] theorem State.latch_block (s : State) (r : Request) : (s.latch r).block = s.block := rfl
@[simp] theorem State.latch_word (s : State) (r : Request) : (s.latch r).port.word = r.word := rfl
@[simp] theorem State.latch_data (s : State) (r : Request) : (s.latch r).port.data = r.data := rfl
@[simp] theorem State.latch_cap (s : State) (r : Request) : (s.latch r).port.cap = r.cap := rfl
@[simp] theorem State.latch_response (s : State) (r : Request) :
    (s.latch r).port.response = s.port.response := rfl
@[simp] theorem State.latch_host (s : State) (r : Request) : (s.latch r).host = s.host := rfl

/-! ### `State.withSchedule` -/

@[simp] theorem State.withSchedule_block (s : State) (e : List HostEvent) : (s.withSchedule e).block = s.block := rfl
@[simp] theorem State.withSchedule_port (s : State) (e : List HostEvent) : (s.withSchedule e).port = s.port := rfl
@[simp] theorem State.withSchedule_schedule (s : State) (e : List HostEvent) :
    (s.withSchedule e).host.schedule = e := rfl
@[simp] theorem State.withSchedule_responses (s : State) (e : List HostEvent) :
    (s.withSchedule e).host.responses = s.host.responses := rfl
@[simp] theorem State.withSchedule_transmitted (s : State) (e : List HostEvent) :
    (s.withSchedule e).host.transmitted = s.host.transmitted := rfl
@[simp] theorem State.withSchedule_rxInbox (s : State) (e : List HostEvent) :
    (s.withSchedule e).host.rxInbox = s.host.rxInbox := rfl
@[simp] theorem State.withSchedule_rxReply (s : State) (e : List HostEvent) :
    (s.withSchedule e).host.rxReply = s.host.rxReply := rfl
@[simp] theorem State.withSchedule_uplinkResults (s : State) (e : List HostEvent) :
    (s.withSchedule e).host.uplinkResults = s.host.uplinkResults := rfl
@[simp] theorem State.withSchedule_delegated (s : State) (e : List HostEvent) :
    (s.withSchedule e).host.delegated = s.host.delegated := rfl
@[simp] theorem State.withSchedule_withSchedule (s : State) (d e : List HostEvent) :
    (s.withSchedule d).withSchedule e = s.withSchedule e := rfl

/-! ### `deliver` -/

@[simp] theorem deliver_block (a : Agent) (t : State) : (deliver a t).block = t.block := rfl
@[simp] theorem deliver_port (a : Agent) (t : State) : (deliver a t).port = t.port := rfl
@[simp] theorem deliver_schedule (a : Agent) (t : State) : (deliver a t).host.schedule = t.host.schedule := rfl
@[simp] theorem deliver_responses (a : Agent) (t : State) :
    (deliver a t).host.responses = (a, t.port.response) :: t.host.responses := rfl
@[simp] theorem deliver_rxInbox (a : Agent) (t : State) : (deliver a t).host.rxInbox = t.host.rxInbox := rfl
@[simp] theorem deliver_rxReply (a : Agent) (t : State) : (deliver a t).host.rxReply = t.host.rxReply := rfl
@[simp] theorem deliver_uplinkResults (a : Agent) (t : State) :
    (deliver a t).host.uplinkResults = t.host.uplinkResults := rfl
@[simp] theorem deliver_delegated (a : Agent) (t : State) : (deliver a t).host.delegated = t.host.delegated := rfl

/-! ### RX's bookkeeping and block reset -/

@[simp] theorem finishUplink_block (st : Status) (m : Option U16) (t : State) :
    (finishUplink st m t).block = t.block := rfl
@[simp] theorem finishUplink_port (st : Status) (m : Option U16) (t : State) :
    (finishUplink st m t).port = t.port := rfl
@[simp] theorem finishUplink_schedule (st : Status) (m : Option U16) (t : State) :
    (finishUplink st m t).host.schedule = t.host.schedule := rfl
@[simp] theorem finishUplink_rxReply (st : Status) (m : Option U16) (t : State) :
    (finishUplink st m t).host.rxReply = none := rfl
@[simp] theorem finishUplink_uplinkResults (st : Status) (m : Option U16) (t : State) :
    (finishUplink st m t).host.uplinkResults = (st, m) :: t.host.uplinkResults := rfl
@[simp] theorem finishUplink_delegated (st : Status) (m : Option U16) (t : State) :
    (finishUplink st m t).host.delegated = t.host.delegated := rfl
@[simp] theorem finishUplink_rxInbox (st : Status) (m : Option U16) (t : State) :
    (finishUplink st m t).host.rxInbox = t.host.rxInbox := rfl

@[simp] theorem delegate_block (a : HostAction) (t : State) : (delegate a t).block = t.block := rfl
@[simp] theorem delegate_port (a : HostAction) (t : State) : (delegate a t).port = t.port := rfl
@[simp] theorem delegate_schedule (a : HostAction) (t : State) :
    (delegate a t).host.schedule = t.host.schedule := rfl
@[simp] theorem delegate_delegated (a : HostAction) (t : State) :
    (delegate a t).host.delegated = a :: t.host.delegated := rfl
@[simp] theorem delegate_uplinkResults (a : HostAction) (t : State) :
    (delegate a t).host.uplinkResults = t.host.uplinkResults := rfl
@[simp] theorem delegate_rxInbox (a : HostAction) (t : State) :
    (delegate a t).host.rxInbox = t.host.rxInbox := rfl

@[simp] theorem blockReset_block (s : State) : (blockReset s).block = Block.reset := rfl
@[simp] theorem blockReset_port (s : State) : (blockReset s).port = s.port := rfl
@[simp] theorem blockReset_host (s : State) : (blockReset s).host = s.host := rfl

/-! ### `Block.dropCursor` -/

@[simp] theorem Block.dropCursor_state (b : Block) : b.dropCursor.state = b.state := rfl
@[simp] theorem Block.dropCursor_prev (b : Block) : b.dropCursor.prev = b.prev := rfl
@[simp] theorem Block.dropCursor_halted (b : Block) : b.dropCursor.halted = b.halted := rfl
@[simp] theorem Block.dropCursor_retry (b : Block) : b.dropCursor.retry = b.retry := rfl
@[simp] theorem Block.dropCursor_ctrlValid (b : Block) : b.dropCursor.ctrlValid = b.ctrlValid := rfl
@[simp] theorem Block.dropCursor_ctrlKind (b : Block) : b.dropCursor.ctrlKind = b.ctrlKind := rfl
@[simp] theorem Block.dropCursor_phase (b : Block) : b.dropCursor.phase = b.phase := rfl
@[simp] theorem Block.dropCursor_queue (b : Block) : b.dropCursor.queue = b.queue := rfl
@[simp] theorem Block.dropCursor_curValid (b : Block) : b.dropCursor.curValid = false := rfl
@[simp] theorem Block.dropCursor_curTag (b : Block) : b.dropCursor.curTag = 0#16 := rfl
@[simp] theorem Block.dropCursor_curBody (b : Block) : b.dropCursor.curBody = [] := rfl
@[simp] theorem Block.dropCursor_curOff (b : Block) : b.dropCursor.curOff = 0 := rfl
@[simp] theorem Block.dropCursor_retValid (b : Block) : b.dropCursor.retValid = b.retValid := rfl
@[simp] theorem Block.dropCursor_retFrame (b : Block) : b.dropCursor.retFrame = b.retFrame := rfl

/-! ### `Block.advanceCursor`: what it never touches -/

@[simp] theorem Block.advanceCursor_state (b : Block) (m : Message) (k : Nat) :
    (b.advanceCursor m k).state = b.state := by unfold Block.advanceCursor; split <;> rfl
@[simp] theorem Block.advanceCursor_prev (b : Block) (m : Message) (k : Nat) :
    (b.advanceCursor m k).prev = b.prev := by unfold Block.advanceCursor; split <;> rfl
@[simp] theorem Block.advanceCursor_halted (b : Block) (m : Message) (k : Nat) :
    (b.advanceCursor m k).halted = b.halted := by unfold Block.advanceCursor; split <;> rfl
@[simp] theorem Block.advanceCursor_retry (b : Block) (m : Message) (k : Nat) :
    (b.advanceCursor m k).retry = b.retry := by unfold Block.advanceCursor; split <;> rfl
@[simp] theorem Block.advanceCursor_ctrlValid (b : Block) (m : Message) (k : Nat) :
    (b.advanceCursor m k).ctrlValid = b.ctrlValid := by unfold Block.advanceCursor; split <;> rfl
@[simp] theorem Block.advanceCursor_ctrlKind (b : Block) (m : Message) (k : Nat) :
    (b.advanceCursor m k).ctrlKind = b.ctrlKind := by unfold Block.advanceCursor; split <;> rfl
@[simp] theorem Block.advanceCursor_phase (b : Block) (m : Message) (k : Nat) :
    (b.advanceCursor m k).phase = b.phase := by unfold Block.advanceCursor; split <;> rfl
@[simp] theorem Block.advanceCursor_queue (b : Block) (m : Message) (k : Nat) :
    (b.advanceCursor m k).queue = b.queue := by unfold Block.advanceCursor; split <;> rfl

/-! ### The response defaults (R10) -/

@[simp] theorem Response.of_status (st : Status) : (Response.of st).status = st := rfl
@[simp] theorem Response.of_out (st : Status) : (Response.of st).out = [] := rfl
@[simp] theorem Response.of_topic (st : Status) : (Response.of st).topic = 0#16 := rfl
@[simp] theorem Response.of_tag (st : Status) : (Response.of st).tag = 0#16 := rfl
@[simp] theorem Response.of_value (st : Status) : (Response.of st).value = 0#32 := rfl

end Sys2Proof.Machine
end

