-- ==== Sys2Proof/Laws/Ops.lean ====
section
/-! SUPPORT. For each shared operation, what it can do, said once: later proofs cite these and do not unfold it. -/

namespace Sys2Proof.Machine

/-! ### Outcomes of a command -/

theorem needData_none (b : Block) (k : ByteString → Result) : needData none b k = (b, Response.of .nullInput) := rfl

theorem needData_some (B : ByteString) (b : Block) (k : ByteString → Result) : needData (some B) b k = k B := rfl

theorem needCap_none (b : Block) (k : Nat → Result) : needCap none b k = (b, Response.of .nullInput) := rfl

theorem needCap_some (n : Nat) (b : Block) (k : Nat → Result) : needCap (some n) b k = k n := rfl

theorem emit_of_fits {n : Nat} {F : ByteString} (h : F.length ≤ n) (b b' : Block) :
    emit n F b b' = (b', frameResponse F) := by
  simp [emit, Nat.not_lt.mpr h, respondOut, frameResponse]

theorem emit_of_too_small {n : Nat} {F : ByteString} (h : n < F.length) (b b' : Block) :
    emit n F b b' = (b, Response.of .bufferTooSmall) := by
  simp [emit, h, fail]

/-- Everything `emit` can do. -/
theorem emit_cases (n : Nat) (F : ByteString) (b b' : Block) :
    (F.length ≤ n ∧ emit n F b b' = (b', frameResponse F)) ∨
    (n < F.length ∧ emit n F b b' = (b, Response.of .bufferTooSmall)) := by
  rcases Nat.lt_or_ge n F.length with h | h
  · exact .inr ⟨h, emit_of_too_small h b b'⟩
  · exact .inl ⟨h, emit_of_fits h b b'⟩

/-- Every meaning completes: exec answers a next state that differs from the one before in the block and the response
alone (60_exceptions.md R210). -/
theorem exec_completes (i : Instr) (s : State) : ∃ p : Result, exec i s = .next (s.complete p) := by
  cases i <;> exact ⟨_, rfl⟩

/-- What exec leaves alone: the operands on the port and the host side. -/
theorem exec_frame {i : Instr} {s t : State} (h : exec i s = .next t) :
    t.host = s.host ∧ t.port.word = s.port.word ∧ t.port.data = s.port.data ∧ t.port.cap = s.port.cap := by
  obtain ⟨p, hp⟩ := exec_completes i s
  rw [hp] at h
  cases h
  exact ⟨rfl, rfl, rfl, rfl⟩

/-- exec is the configured machine at the chosen configuration. -/
theorem exec_eq_execUnder (i : Instr) (s : State) : exec i s = execUnder Config.chosen i s := by
  cases i <;> rfl

/-- step is the configured step at the chosen configuration and host services. -/
theorem step_eq_stepUnder (s : State) : step s = stepUnder Config.chosen HostServices.chosen s := by
  have h : exec = execUnder Config.chosen := funext fun i => funext fun s => exec_eq_execUnder i s
  simp only [step, stepUnder, h]

/-! ### Frames -/

@[simp] theorem le16_length (v : U16) : (le16 v).length = 2 := rfl

@[simp] theorem le32_length (v : U32) : (le32 v).length = 4 := rfl

/-- A frame is the header and the body long (00_scope.md R11). -/
@[simp] theorem wrap_length (c : Config) (t : U16) (B : ByteString) :
    (wrap c t B).length = headerSize + B.length := by
  simp [wrap, headerSize]; omega

/-- `rd_le32` reads back what `le32` wrote (00_scope.md R9). -/
theorem rdLe32_le32 (v : U32) (x : ByteString) : rdLe32 (le32 v ++ x) 0 = v := by
  simp only [rdLe32, byteAt, le32, List.cons_append, List.getD_cons_zero, List.getD_cons_succ, List.nil_append]
  ext k hk
  simp
  interval_cases k <;> simp

/-! ### ENGINE_NEXT -/

theorem chunkSource_cursor {b : Block} (h : b.curValid = true) :
    chunkSource b = some (⟨b.curTag, b.curBody⟩, b.curOff, b.queue) := by
  simp [chunkSource, h]

theorem chunkSource_head {b : Block} {m : Message} {rest : List Message} (h : b.curValid = false)
    (hq : b.queue = m :: rest) : chunkSource b = some (m, 0, rest) := by
  simp [chunkSource, h, hq]

theorem chunkSource_none_iff (b : Block) : chunkSource b = none ↔ b.curValid = false ∧ b.queue = [] := by
  unfold chunkSource
  cases b.curValid <;> cases b.queue <;> simp

theorem engineNext_none_iff (c : Config) (b : Block) :
    engineNext c b = none ↔ b.curValid = false ∧ b.queue = [] := by
  rw [← chunkSource_none_iff]
  unfold engineNext
  cases chunkSource b <;> simp

/-- Everything ENGINE_NEXT can do when it yields a frame (41_queue.md R134). -/
theorem engineNext_some {c : Config} {b b' : Block} {F : ByteString} (h : engineNext c b = some (F, b')) :
    ∃ m off rest, chunkSource b = some (m, off, rest) ∧
      F = wrap c m.tag (bytesFrom m.body off (min c.maxFrameSize (m.body.length - off))) ∧
      b' = { ({ b with queue := rest } : Block).advanceCursor m (off + min c.maxFrameSize (m.body.length - off)) with
             retValid := true, retFrame := F } := by
  unfold engineNext at h
  split at h
  · cases h
  · rename_i m off rest hc
    cases h
    exact ⟨m, off, rest, hc, rfl, rfl⟩

/-- A chunk is at most MAX_FRAME_SIZE bytes, so a capacity of HEADER_SIZE + MAX_FRAME_SIZE always fits its frame
(41_queue.md R133). -/
theorem engineNext_frame_length {c : Config} {b b' : Block} {F : ByteString} (h : engineNext c b = some (F, b')) :
    F.length ≤ headerSize + c.maxFrameSize := by
  obtain ⟨m, off, rest, -, rfl, -⟩ := engineNext_some h
  simp [bytesFrom]

/-! ### The arbiter and the lifecycle -/

/-- Everything RETRY_STEP can do (42_arbiter.md R164, R165). -/
theorem retryStep_cases (c : Config) (b : Block) :
    (inContact b.state = false ∧ retryStep c b = (b, Response.of .ignored)) ∨
    (inContact b.state = true ∧ c.retryMax < b.retry.toNat + 1 ∧
      retryStep c b = (exhausted b, Response.of .retryExhausted)) ∨
    (inContact b.state = true ∧ b.retry.toNat + 1 ≤ c.retryMax ∧
      retryStep c b = ({ b with retry := BitVec.ofNat 8 (b.retry.toNat + 1),
                                phase := if b.retValid then .resend else b.phase }, Response.of .ok)) := by
  unfold retryStep
  by_cases h : inContact b.state = true
  · by_cases hn : b.retry.toNat + 1 > c.retryMax
    · refine .inr (.inl ⟨h, hn, ?_⟩)
      rw [if_pos h, if_pos hn]
      rfl
    · refine .inr (.inr ⟨h, by omega, ?_⟩)
      rw [if_pos h, if_neg hn]
      rfl
  · refine .inl ⟨by simpa using h, ?_⟩
    rw [if_neg h]
    rfl

/-- Everything the end of a suspension can do (43_session.md R186, R188). -/
theorem endSuspension_cases (b : Block) :
    (b.state = .suspended ∧ endSuspension b = ({ b with state := b.prev.toLifecycle }, Response.of .ok)) ∨
    (b.state ≠ .suspended ∧ endSuspension b = (b, Response.of .ignored)) := by
  unfold endSuspension
  by_cases h : b.state = .suspended <;> simp [h, respond]

theorem inContact_iff (l : Lifecycle) : inContact l = true ↔ l = .activePass ∨ l = .fileTransferActive := by
  cases l <;> simp [inContact]

/-! ### The port and the schedule -/

@[simp] theorem thenNext_next (t : State) (f : State → State) : thenNext (.next t) f = .next (f t) := rfl

theorem issue_legal {ex : Meaning} {r : Request} {i : Instr} (h : decode r.word = .ok i) (s : State) :
    issue ex r s = ex i (s.latch r) := by
  simp [issue, h]

theorem issue_illegal {ex : Meaning} {r : Request} {e : DecodeError} (h : decode r.word = .error e) (s : State) :
    issue ex r s = .next ((s.latch r).after s.block (Response.of .illegalCommand)) := by
  simp [issue, h]
  rfl

/-- What one command of an agent does in one step. -/
theorem step_command {s : State} {a : Agent} {r : Request} {rest : List HostEvent}
    (h : s.host.schedule = .command a r :: rest) : step s = issueFor exec a r (s.withSchedule rest) := by
  simp [step, stepWith, h, runEvent]

/-- A legal command that is next: one step of the machine is exec of what its word decodes to. -/
theorem stepsBy_of_exec {a : Agent} {r : Request} {i : Instr} {s u : State} (h : decode r.word = .ok i)
    (hx : exec i ((s.withSchedule []).latch r) = .next u) : StepsBy a r s (deliver a u) := by
  unfold StepsBy
  rw [step_command (s := s.withSchedule [.command a r]) rfl, issueFor, issue_legal h, State.withSchedule_withSchedule,
    hx, thenNext_next]

/-- When an exchange is a retransmission. -/
theorem Exchange.retransmits_iff (x : Exchange) : x.retransmits = true ↔
    x.req.word = encode .poll ∧ x.found.block.ctrlValid = false ∧ x.found.block.phase = .resend ∧
      x.left.port.response.status = .ok := decide_eq_true_iff

/-- When an exchange is a retry that the ceiling allows. -/
theorem Exchange.retries_iff (x : Exchange) : x.retries = true ↔
    (x.req.word = encode .nackReceived ∨ x.req.word = encode .ackTimeout) ∧ x.left.port.response.status = .ok :=
  decide_eq_true_iff

/-- With nothing scheduled the block waits. -/
theorem step_idle {s : State} (h : s.host.schedule = []) : step s = .next s := by
  simp [step, stepWith, h]

end Sys2Proof.Machine
end

