-- ==== Sys2Proof/Laws/PerInstr.lean ====
section
/-! SUPPORT. Per-instruction facts about syntax: each command's word matches its row of spec/opcode_table.json. -/

namespace Sys2Proof.Laws.TableRow

/-- The row's "match". -/
def rowMatch : Instr → U32
  | .crc32 => 0x01000000#32
  | .generate _ => 0x02000000#32
  | .parse => 0x03000000#32
  | .addMessage _ => 0x10000000#32
  | .nextFrame => 0x11000000#32
  | .currentFrame => 0x12000000#32
  | .poll => 0x20000000#32
  | .sendAck => 0x21000000#32
  | .sendNack => 0x22000000#32
  | .ackReceived => 0x30000000#32
  | .nackReceived => 0x31000000#32
  | .ackTimeout => 0x32000000#32
  | .beginPass => 0x40000000#32
  | .beginFileTransfer => 0x41000000#32
  | .ceaseTransmission => 0x42000000#32
  | .resumeTransmission => 0x43000000#32
  | .suspendElapsed => 0x44000000#32
  | .passElapsed => 0x45000000#32
  | .resetSat => 0x46000000#32
  | .readStatus => 0x50000000#32

/-- The row's "mask": the tag bits are free for the two commands that take one. -/
def rowMask : Instr → U32
  | .generate _ | .addMessage _ => 0xFFFF0000#32
  | .crc32 | .parse | .nextFrame | .currentFrame | .poll | .sendAck | .sendNack
  | .ackReceived | .nackReceived | .ackTimeout | .beginPass | .beginFileTransfer | .ceaseTransmission
  | .resumeTransmission | .suspendElapsed | .passElapsed | .resetSat | .readStatus => 0xFFFFFFFF#32

/-- The command's word is one its table row matches. -/
def Statement (i : Instr) : Prop := encode i &&& rowMask i = rowMatch i

/-- A word of a command with a tag, masked: the tag falls away. -/
theorem masked_tag (opc : BitVec 8) (tag : U16) :
    (opc ++ 0#8 ++ tag : U32) &&& 0xFFFF0000#32 = opc ++ 0#8 ++ 0#16 := by
  ext k hk
  simp only [BitVec.getElem_and, BitVec.getElem_append, BitVec.getElem_zero]
  by_cases h : k < 16
  · simp only [h, ↓reduceDIte]
    interval_cases k <;> simp
  · simp only [h, ↓reduceDIte]
    interval_cases k <;> simp_all

theorem crc32 : Statement .crc32 := by unfold Statement; decide
theorem generate (tag : U16) : Statement (.generate tag) := 
  (masked_tag 0x02#8 tag).trans (show (0x02#8 ++ 0#8 ++ 0#16 : U32) = 0x02000000#32 by decide)
theorem parse : Statement .parse := by unfold Statement; decide
theorem addMessage (tag : U16) : Statement (.addMessage tag) := 
  (masked_tag 0x10#8 tag).trans (show (0x10#8 ++ 0#8 ++ 0#16 : U32) = 0x10000000#32 by decide)
theorem nextFrame : Statement .nextFrame := by unfold Statement; decide
theorem currentFrame : Statement .currentFrame := by unfold Statement; decide
theorem poll : Statement .poll := by unfold Statement; decide
theorem sendAck : Statement .sendAck := by unfold Statement; decide
theorem sendNack : Statement .sendNack := by unfold Statement; decide
theorem ackReceived : Statement .ackReceived := by unfold Statement; decide
theorem nackReceived : Statement .nackReceived := by unfold Statement; decide
theorem ackTimeout : Statement .ackTimeout := by unfold Statement; decide
theorem beginPass : Statement .beginPass := by unfold Statement; decide
theorem beginFileTransfer : Statement .beginFileTransfer := by unfold Statement; decide
theorem ceaseTransmission : Statement .ceaseTransmission := by unfold Statement; decide
theorem resumeTransmission : Statement .resumeTransmission := by unfold Statement; decide
theorem suspendElapsed : Statement .suspendElapsed := by unfold Statement; decide
theorem passElapsed : Statement .passElapsed := by unfold Statement; decide
theorem resetSat : Statement .resetSat := by unfold Statement; decide
theorem readStatus : Statement .readStatus := by unfold Statement; decide

end Sys2Proof.Laws.TableRow
end

