-- ==== Sys2Proof/Tests/Slice0.lean ====
section
/-! SUPPORT. The model's own tests: words written out from 30_encoding.md, the spec's vectors (95_test_vectors.md, named
by their ids), and for every obligation with hypotheses a witness that meets them. -/

namespace Sys2Proof.Tests

open Sys2Proof.Machine

/-! ### Decoding: words written out from R78, bit by bit from R74 -/

theorem test_decode_crc32 : decode 0x01000000#32 = .ok .crc32 := by decide
theorem test_decode_generate : decode 0x02000301#32 = .ok (.generate 0x0301#16) := by decide
theorem test_decode_generate_tag_max : decode 0x0200FFFF#32 = .ok (.generate 0xFFFF#16) := by decide
theorem test_decode_parse : decode 0x03000000#32 = .ok .parse := by decide
theorem test_decode_addMessage : decode 0x10000301#32 = .ok (.addMessage 0x0301#16) := by decide
theorem test_decode_addMessage_tag_zero : decode 0x10000000#32 = .ok (.addMessage 0x0000#16) := by decide
theorem test_decode_nextFrame : decode 0x11000000#32 = .ok .nextFrame := by decide
theorem test_decode_currentFrame : decode 0x12000000#32 = .ok .currentFrame := by decide
theorem test_decode_poll : decode 0x20000000#32 = .ok .poll := by decide
theorem test_decode_sendAck : decode 0x21000000#32 = .ok .sendAck := by decide
theorem test_decode_sendNack : decode 0x22000000#32 = .ok .sendNack := by decide
theorem test_decode_ackReceived : decode 0x30000000#32 = .ok .ackReceived := by decide
theorem test_decode_nackReceived : decode 0x31000000#32 = .ok .nackReceived := by decide
theorem test_decode_ackTimeout : decode 0x32000000#32 = .ok .ackTimeout := by decide
theorem test_decode_beginPass : decode 0x40000000#32 = .ok .beginPass := by decide
theorem test_decode_beginFileTransfer : decode 0x41000000#32 = .ok .beginFileTransfer := by decide
theorem test_decode_ceaseTransmission : decode 0x42000000#32 = .ok .ceaseTransmission := by decide
theorem test_decode_resumeTransmission : decode 0x43000000#32 = .ok .resumeTransmission := by decide
theorem test_decode_suspendElapsed : decode 0x44000000#32 = .ok .suspendElapsed := by decide
theorem test_decode_passElapsed : decode 0x45000000#32 = .ok .passElapsed := by decide
theorem test_decode_resetSat : decode 0x46000000#32 = .ok .resetSat := by decide
theorem test_decode_readStatus : decode 0x50000000#32 = .ok .readStatus := by decide

/-- V-D-1 to V-D-4. -/
theorem test_decode_illegal :
    decode 0x00000000#32 = .error .unknownOpcode ∧ decode 0x01010000#32 = .error .reservedNonzero ∧
    decode 0x20000001#32 = .error .immediateNonzero ∧ decode 0xFF000000#32 = .error .unknownOpcode ∧
    decode 0x13000000#32 = .error .unknownOpcode ∧ decode 0x04000000#32 = .error .unknownOpcode ∧
    decode 0x51000000#32 = .error .unknownOpcode := by decide

/-- R79: the checks come in order, so a word that fails all three fails the first. -/
theorem test_decode_order :
    decode 0x04010001#32 = .error .unknownOpcode ∧ decode 0x20010001#32 = .error .reservedNonzero := by decide

/-! ### WellFormed: an ill-formed word for each check of R79 -/

theorem test_illformed_opcode : CommandWord.opcodeKnown 0x04000000#32 = false := by decide
theorem test_illformed_reserved : CommandWord.reservedZero 0x01010000#32 = false := by decide
theorem test_illformed_immediate : CommandWord.immediateLegal 0x20000001#32 = false := by decide
theorem test_wellformed_word : CommandWord.legal 0x0200FFFF#32 = true := by decide

/-! ### The host's two definitions and the step -/

/-- What an outcome leaves: the block and the response, if it is a next state. -/
def resultOf (o : Host.Outcome State Fault Refusal) : Option (Block × Response) :=
  match o with
  | .next t => some (t.block, t.port.response)
  | .fault _ => none
  | .refused _ => none

theorem test_table_word :
    decodeTableWord 32 0x21000000 = some .sendAck ∧ decodeTableWord 32 0x10000301 = some (.addMessage 0x0301#16) ∧
    decodeTableWord 32 0x21000001 = none ∧ decodeTableWord 40 0x21000000 = none := by decide

/-- A word placed for the next step is fetched and run. -/
theorem test_fetch_runs :
    resultOf (step (State.reset.withFetchWord 32 0x22000000)) =
      some ({ Block.reset with ctrlValid := true, ctrlKind := .nack }, Response.of .ok) := by decide

/-- A placed GENERATE reaches the port without operands, so it answers NULL_INPUT (R77, R82). -/
theorem test_fetch_generate :
    resultOf (step (State.reset.withFetchWord 32 0x02000301)) = some (Block.reset, Response.of .nullInput) := by decide

/-- V-D-1: an all-zero word is illegal, and the step answers it. -/
theorem test_step_illegal :
    resultOf (step (State.reset.withFetchWord 32 0)) = some (Block.reset, Response.of .illegalCommand) := by decide

/-! ### One command at a time, under E0 (at most two tests an instruction) -/

/-- A state with a given block and operands on the port. -/
def stateAt (b : Block) (data : Option ByteString) (cap : Option Nat) : State :=
  { State.reset with block := b, port := { word := 0#32, data := data, cap := cap, response := Response.of .ok } }

/-- The reset block in a given lifecycle state. -/
def inState (l : Lifecycle) : Block := { Block.reset with state := l }

/-- One command under E0. -/
def e0 (i : Instr) (b : Block) (data : Option ByteString) (cap : Option Nat) : Option (Block × Response) :=
  resultOf (execUnder Config.e0 i (stateAt b data cap))

def hello : ByteString := [0x48#8, 0x45#8, 0x4C#8, 0x4C#8, 0x4F#8]

/-- F_HELLO. -/
def frameHello : ByteString :=
  [0x31#8, 0x4B#8, 0x53#8, 0x52#8, 0x36#8, 0x64#8, 0x44#8, 0xC1#8, 0x03#8, 0x00#8, 0x01#8, 0x03#8] ++ hello

/-- F_EMPTY. -/
def frameEmpty : ByteString :=
  [0x31#8, 0x4B#8, 0x53#8, 0x52#8, 0x00#8, 0x00#8, 0x00#8, 0x00#8, 0x03#8, 0x00#8, 0x01#8, 0x03#8]

/-- V-CRC-6. -/
theorem test_crc32_hello :
    e0 .crc32 Block.reset (some hello) none = some (Block.reset, { Response.of .ok with value := 0xC1446436#32 }) := by
  decide +kernel

/-- V-CRC-10. -/
theorem test_crc32_null : e0 .crc32 Block.reset none none = some (Block.reset, Response.of .nullInput) := by decide

/-- V-GEN-5: tag and topic zero, a one-byte body, exactly enough room. -/
theorem test_generate_exact :
    e0 (.generate 0x0000#16) Block.reset (some [0x00#8]) (some 13) = some (Block.reset, frameResponse
      [0x31#8, 0x4B#8, 0x53#8, 0x52#8, 0x8D#8, 0xEF#8, 0x02#8, 0xD2#8, 0x00#8, 0x00#8, 0x00#8, 0x00#8, 0x00#8]) := by
  decide +kernel

/-- V-GEN-3: one byte short. -/
theorem test_generate_short :
    e0 (.generate 0x0301#16) Block.reset (some []) (some 11) = some (Block.reset, Response.of .encodeError) := by
  decide +kernel

/-- V-PARSE-8: the topic is returned as received. -/
theorem test_parse_topic_unchecked :
    e0 .parse Block.reset (some ([0x31#8, 0x4B#8, 0x53#8, 0x52#8, 0x36#8, 0x64#8, 0x44#8, 0xC1#8, 0x09#8, 0x00#8,
        0x01#8, 0x03#8] ++ hello)) none =
      some (Block.reset, { status := .ok, out := hello, topic := 0x0009#16, tag := 0x0301#16, value := 0#32 }) := by
  decide +kernel

/-- V-PARSE-7: the preamble is checked before the checksum. -/
theorem test_parse_order :
    e0 .parse Block.reset (some ([0xCE#8, 0x4B#8, 0x53#8, 0x52#8, 0xC9#8, 0x64#8, 0x44#8, 0xC1#8, 0x03#8, 0x00#8,
        0x01#8, 0x03#8] ++ hello)) none = some (Block.reset, Response.of .malformedHeader) := by decide +kernel

/-- V-Q-1. -/
theorem test_addMessage_empty :
    e0 (.addMessage 0x0301#16) Block.reset (some []) none =
      some ({ Block.reset with queue := [⟨0x0301#16, []⟩] }, Response.of .ok) := by decide

/-- V-Q-2: four messages wait, so even an empty body is refused. -/
theorem test_addMessage_full :
    e0 (.addMessage 1#16) { Block.reset with queue := List.replicate 4 ⟨1#16, []⟩ } (some []) none =
      some ({ Block.reset with queue := List.replicate 4 ⟨1#16, []⟩ }, Response.of .queueFull) := by decide

/-- V-Q-9: an empty message yields one frame and drops the cursor at once. -/
theorem test_nextFrame_empty_message :
    e0 .nextFrame { Block.reset with queue := [⟨0x0301#16, []⟩] } none (some 12) =
      some ({ Block.reset with retValid := true, retFrame := frameEmpty }, frameResponse frameEmpty) := by
  decide +kernel

/-- V-Q-9: too small a buffer consumes nothing. -/
theorem test_nextFrame_small :
    e0 .nextFrame { Block.reset with queue := [⟨0x0301#16, []⟩] } none (some 11) =
      some ({ Block.reset with queue := [⟨0x0301#16, []⟩] }, Response.of .bufferTooSmall) := by decide +kernel

/-- V-Q-10. -/
theorem test_currentFrame_retained :
    e0 .currentFrame { Block.reset with retValid := true, retFrame := frameEmpty } none (some 12) =
      some ({ Block.reset with retValid := true, retFrame := frameEmpty }, frameResponse frameEmpty) := by decide

/-- V-Q-7. -/
theorem test_currentFrame_none : e0 .currentFrame Block.reset none (some 112) = some (Block.reset, Response.of .empty) := by
  decide

/-- V-A-5. -/
theorem test_poll_file_frame :
    e0 .poll { inState .fileTransferActive with queue := [⟨0x0301#16, hello⟩] } none (some 64) =
      some ({ inState .fileTransferActive with phase := .await, retValid := true, retFrame := frameHello },
        frameResponse frameHello) := by decide +kernel

/-- V-A-8: a pending NACK goes out while a frame is in flight, and the retained frame is untouched. -/
theorem test_poll_control_preempts :
    e0 .poll { inState .fileTransferActive with
                 phase := .await, ctrlValid := true, ctrlKind := .nack, retValid := true, retFrame := frameHello }
        none (some 64) =
      some ({ inState .fileTransferActive with
                phase := .await, ctrlValid := false, ctrlKind := .nack, retValid := true, retFrame := frameHello },
        frameResponse [0x31#8, 0x4B#8, 0x53#8, 0x52#8, 0x8D#8, 0xEF#8, 0x02#8, 0xD2#8, 0x01#8, 0x00#8, 0x02#8, 0x01#8,
          0x00#8]) := by decide +kernel

/-- R155: an unsent NACK is replaced. -/
theorem test_sendAck_replaces :
    e0 .sendAck { Block.reset with ctrlValid := true, ctrlKind := .nack } none none =
      some ({ Block.reset with ctrlValid := true, ctrlKind := .ack }, Response.of .ok) := by decide

/-- R156: an unsent ACK is replaced. -/
theorem test_sendNack_replaces :
    e0 .sendNack { Block.reset with ctrlValid := true } none none =
      some ({ Block.reset with ctrlValid := true, ctrlKind := .nack }, Response.of .ok) := by decide

/-- R160's worked example. -/
theorem test_ackReceived_clears :
    e0 .ackReceived { inState .fileTransferActive with phase := .await, retry := 2#8, retValid := true } none none =
      some ({ inState .fileTransferActive with retValid := true }, Response.of .ok) := by decide

/-- V-A-15. -/
theorem test_ackReceived_suspended :
    e0 .ackReceived (inState .suspended) none none = some (inState .suspended, Response.of .ignored) := by decide

/-- V-A-12: without a retained frame the counter advances and nothing is scheduled. -/
theorem test_nackReceived_nothing_retained :
    e0 .nackReceived (inState .activePass) none none =
      some ({ inState .activePass with retry := 1#8 }, Response.of .ok) := by decide

/-- V-A-10: the control slot, S.prev and the queue stay. -/
theorem test_nackReceived_exhausts :
    e0 .nackReceived { inState .fileTransferActive with
        phase := .await, retry := 3#8, prev := .fileTransferActive, ctrlValid := true, queue := [⟨1#16, []⟩],
        curValid := true, curTag := 1#16, curBody := hello, curOff := 1, retValid := true, retFrame := frameHello }
        none none =
      some ({ Block.reset with prev := .fileTransferActive, ctrlValid := true, queue := [⟨1#16, []⟩] },
        Response.of .retryExhausted) := by decide

/-- R163's worked example, by ACK_TIMEOUT. -/
theorem test_ackTimeout_resends :
    e0 .ackTimeout { inState .fileTransferActive with phase := .await, retValid := true } none none =
      some ({ inState .fileTransferActive with phase := .resend, retry := 1#8, retValid := true }, Response.of .ok) := by
  decide

/-- V-A-11. -/
theorem test_ackTimeout_idle : e0 .ackTimeout Block.reset none none = some (Block.reset, Response.of .ignored) := by decide

/-- V-S-1, V-S-2. -/
theorem test_beginPass :
    e0 .beginPass Block.reset none none = some (inState .activePass, Response.of .ok) ∧
    e0 .beginPass (inState .activePass) none none = some (inState .activePass, Response.of .ignored) := by decide

/-- V-S-4, and R182's corner case: the phase is not changed. -/
theorem test_beginFileTransfer :
    e0 .beginFileTransfer { inState .activePass with retry := 2#8, phase := .resend } none none =
      some ({ inState .fileTransferActive with phase := .resend }, Response.of .ok) := by decide

/-- V-S-5: the second one does not overwrite S.prev. -/
theorem test_ceaseTransmission :
    e0 .ceaseTransmission (inState .fileTransferActive) none none =
      some ({ inState .suspended with prev := .fileTransferActive }, Response.of .ok) ∧
    e0 .ceaseTransmission { inState .suspended with prev := .fileTransferActive } none none =
      some ({ inState .suspended with prev := .fileTransferActive }, Response.of .ignored) := by decide

/-- V-S-7. -/
theorem test_resumeTransmission :
    e0 .resumeTransmission (inState .suspended) none none = some (inState .activePass, Response.of .ok) := by decide

/-- V-S-6: S.prev is not cleared. -/
theorem test_suspendElapsed :
    e0 .suspendElapsed { inState .suspended with prev := .fileTransferActive } none none =
      some ({ inState .fileTransferActive with prev := .fileTransferActive }, Response.of .ok) := by decide

/-- V-S-8. -/
theorem test_passElapsed :
    e0 .passElapsed { inState .suspended with phase := .await, retry := 1#8, retValid := true } none none =
      some ({ Block.reset with retValid := true }, Response.of .ok) := by decide

/-- V-S-10. -/
theorem test_resetSat :
    e0 .resetSat (inState .activePass) none none = some ({ inState .activePass with halted := true }, Response.of .ok) := by
  decide

/-- R196's worked example. -/
theorem test_readStatus :
    (e0 .readStatus { inState .fileTransferActive with
        phase := .await, curValid := true, retValid := true, retry := 1#8,
        queue := [⟨0#16, []⟩, ⟨0#16, []⟩] } none none).map (fun p => p.2.value) = some 0x02010312#32 := by decide

/-- V-S-12. -/
theorem test_readStatus_control :
    (e0 .readStatus { Block.reset with ctrlValid := true, ctrlKind := .nack } none none).map (fun p => p.2.value) =
      some 0x000000C0#32 := by decide

/-! ### Witnesses: for every obligation with hypotheses, a state and operands that meet them

`Config.chosen` has no body, so the witnesses name their sizes by it: a body of exactly MAX_FRAME_SIZE bytes, a capacity of
exactly HEADER_SIZE + MAX_FRAME_SIZE. -/

/-- A body of `n` zero bytes. -/
def zeros (n : Nat) : ByteString := List.replicate n 0#8

/-- The capacity that always suffices (R257). -/
def enough : Nat := headerSize + Config.chosen.maxFrameSize

/-- The smallest frame: tag 0, no payload. -/
def smallFrame : ByteString := wrap Config.chosen 0#16 []

/-- One empty message waits, in a given lifecycle state. -/
def oneWaiting (l : Lifecycle) : Block := { inState l with queue := [⟨0#16, []⟩] }

/-- A message of two frames waits. -/
def twoFrames : Block := { Block.reset with queue := [⟨0#16, zeros (Config.chosen.maxFrameSize + 1)⟩] }

/-- A frame is in flight, in a given phase. -/
def inFlight (ph : Phase) : Block :=
  { inState .fileTransferActive with phase := ph, retValid := true, retFrame := smallFrame }

/-- The retry counter is at RETRY_MAX: the next NACK exhausts. -/
def lastChance : Block := { inState .fileTransferActive with retry := BitVec.ofNat 8 Config.chosen.retryMax }

theorem smallFrame_length : smallFrame.length = 12 := rfl

theorem smallFrame_fits : smallFrame.length ≤ enough := by
  rw [smallFrame_length]
  exact Nat.le_add_right 12 _

theorem lastChance_retry : lastChance.retry.toNat = Config.chosen.retryMax := by
  have := Config.chosen.retryMax_le
  simp [lastChance]
  omega

theorem lastChance_exhausts : retryStep Config.chosen lastChance = (exhausted lastChance, Response.of .retryExhausted) := by
  rcases retryStep_cases Config.chosen lastChance with ⟨h, -⟩ | ⟨-, -, h⟩ | ⟨-, h, -⟩
  · cases h
  · exact h
  · rw [lastChance_retry] at h
    omega

/-- ENGINE_NEXT on one empty message. -/
theorem engineNext_oneWaiting (l : Lifecycle) :
    engineNext Config.chosen (oneWaiting l) =
      some (smallFrame, { inState l with retValid := true, retFrame := smallFrame }) := by
  simp [engineNext, chunkSource, oneWaiting, inState, Block.reset, Block.advanceCursor, Block.dropCursor, bytesFrom,
    smallFrame]

/-- ENGINE_NEXT on a message of two frames leaves the cursor open. -/
theorem engineNext_twoFrames :
    engineNext Config.chosen twoFrames =
      some (wrap Config.chosen 0#16 (zeros Config.chosen.maxFrameSize),
        { Block.reset with
          curValid := true, curTag := 0#16, curBody := zeros (Config.chosen.maxFrameSize + 1),
          curOff := Config.chosen.maxFrameSize, retValid := true,
          retFrame := wrap Config.chosen 0#16 (zeros Config.chosen.maxFrameSize) }) := by
  simp [engineNext, chunkSource, twoFrames, Block.reset, Block.advanceCursor, bytesFrom, zeros]

/-- A block with nothing queued, open, retained or in flight meets the invariants. -/
theorem inv_of_quiet {b : Block} (hq : b.queue = []) (hc : b.curValid = false) (hr : b.retValid = false)
    (hp : b.phase = .ready) (hn : b.retry.toNat ≤ Config.chosen.retryMax) (hi : b.state ≠ .idle) :
    b.Inv Config.chosen where
  queueDepth := by simp [hq]
  store := by simp [used, hq, hc]
  retry := hn
  cursor := by simp [hc]
  retained := by simp [hr]
  phase := .inl hp
  inFlight := by simp [hp]
  idle := fun h => absurd h hi

theorem witness_DecodeInvertsEncode :
    (Instr.generate 0xFFFF#16).wellFormed = true ∧ decode 0x0200FFFF#32 = .ok (.generate 0xFFFF#16) := by decide

theorem witness_EncodedOnlyBy :
    ([.crc32, .parse, .nextFrame, .currentFrame, .poll, .sendAck, .sendNack, .ackReceived, .nackReceived, .ackTimeout,
      .beginPass, .beginFileTransfer, .ceaseTransmission, .resumeTransmission, .suspendElapsed, .passElapsed, .resetSat,
      .readStatus] : List Instr).all (fun i =>
        opcField (encode i ||| 0x00010000#32) == opcField (encode i) && encode i ||| 0x00010000#32 != encode i &&
        opcField (encode i ||| 0x00000001#32) == opcField (encode i) && encode i ||| 0x00000001#32 != encode i) = true := by
  decide

theorem witness_EncodedWithTag :
    opcField 0x02010000#32 = opcField 0x02000000#32 ∧ rsvField 0x02010000#32 ≠ 0#8 ∧
    opcField 0x10FFFFFF#32 = opcField 0x10000000#32 ∧ rsvField 0x10FFFFFF#32 ≠ 0#8 := by decide

theorem witness_DecoderRejectsExactlyIllegalWords :
    (decode 0x1000FFFF#32 = .ok (.addMessage 0xFFFF#16) ∧ (Instr.addMessage 0xFFFF#16).takesTag = true) ∧
    (State.reset.withSchedule [.command .tx ⟨0#32, none, none⟩]).host.schedule = [.command .tx ⟨0#32, none, none⟩] ∧
    decode (⟨0#32, none, none⟩ : Request).word = .error .unknownOpcode := ⟨by decide, rfl, by decide⟩

theorem witness_StepRunsDecodedCommand :
    (State.reset.withSchedule [.command .tx ⟨0x20000000#32, none, some 0⟩, .reset]).host.schedule =
      .command .tx ⟨0x20000000#32, none, some 0⟩ :: [.reset] ∧
    decode (⟨0x20000000#32, none, some 0⟩ : Request).word = .ok .poll := ⟨rfl, by decide⟩

theorem witness_ResetValues :
    ((stateAt lastChance none none).withSchedule [.reset]).host.schedule = .reset :: [] := rfl

theorem witness_StepKeepsInvariants :
    (stateAt lastChance none none).Inv ∧
    ∃ t, StepsBy .rx (request .nackReceived none none) (stateAt lastChance none none) t :=
  ⟨inv_of_quiet rfl rfl rfl rfl lastChance_retry.le (by decide), _, stepsBy_of_exec (i := .nackReceived) (by decide) rfl⟩

theorem witness_ReachableStatesMeetInvariants :
    ∃ t, Host.Core.run Sys2Proof.core 1 (State.reset.withSchedule [.receive []]) = .next t := ⟨_, rfl⟩

theorem witness_StepKeepsCanonicalFields :
    (stateAt (oneWaiting .idle) none none).block.Canonical ∧
    ∃ t, StepsBy .rx (request .nextFrame none (some enough)) (stateAt (oneWaiting .idle) none none) t :=
  ⟨⟨fun _ => ⟨rfl, rfl, rfl⟩, fun _ => rfl⟩, _, stepsBy_of_exec (i := .nextFrame) (by decide) rfl⟩

theorem witness_FailingCommandsChangeNothing :
    (∃ t, StepsBy .tx (request .poll none none) State.reset t ∧ t.port.response.status = .nullInput) ∧
    ∃ t, StepsBy .rx (request .ackTimeout none none) (stateAt lastChance none none) t ∧
      t.port.response.status = .retryExhausted := by
  refine ⟨⟨_, stepsBy_of_exec (i := .poll) (by decide) rfl, rfl⟩,
    ⟨_, stepsBy_of_exec (i := .ackTimeout) (by decide) rfl, ?_⟩⟩
  show (retryStep Config.chosen lastChance).2.status = _
  rw [lastChance_exhausts]; rfl

/-- PARSE of a frame with tag 1 and no payload. -/
theorem parse_tag_one :
    (runParse Config.chosen (some (wrap Config.chosen 1#16 [])) Block.reset).2.tag = 1#16 := by
  have h : rdLe32 (wrap Config.chosen 1#16 []) 0 = Config.chosen.preamble := by
    simp only [wrap, List.append_assoc]
    exact rdLe32_le32 _ _
  unfold runParse needData
  simp only
  rw [if_neg (by simp), if_neg (by simp), if_neg (by rw [h]; simp), if_neg]
  · rfl
  · rw [not_not]
    decide +kernel

theorem witness_StatusesOfEachCommand :
    (∃ t, exec .poll (stateAt Block.reset none (some 0)) = .next t ∧ t.port.response.status ≠ .ok) ∧
    (∃ t, exec .readStatus (stateAt (inState .activePass) none none) = .next t ∧ t.port.response.value ≠ 0#32) ∧
    (∃ t, exec .nextFrame (stateAt (oneWaiting .idle) none (some enough)) = .next t ∧ t.port.response.out ≠ []) ∧
    ∃ t, exec .parse (stateAt Block.reset (some (wrap Config.chosen 1#16 [])) none) = .next t ∧
      t.port.response.tag ≠ 0#16 := by
  refine ⟨⟨_, rfl, by decide⟩, ⟨_, rfl, by decide⟩, ⟨_, rfl, ?_⟩, ⟨_, rfl, ?_⟩⟩
  · show (runNextFrame Config.chosen (some enough) (oneWaiting .idle)).2.out ≠ []
    simp only [runNextFrame, needCap, engineNext_oneWaiting, emit_of_fits smallFrame_fits]
    intro h
    exact absurd (congrArg List.length h) (by decide)
  · show (runParse Config.chosen (some (wrap Config.chosen 1#16 [])) Block.reset).2.tag ≠ 0#16
    rw [parse_tag_one]
    decide

theorem witness_WritersOfEachField :
    (∃ t, exec .beginPass State.reset = .next t ∧ t.block.state ≠ State.reset.block.state) ∧
    (∃ t, exec .nackReceived (stateAt lastChance none none) = .next t ∧ t.block.state ≠ lastChance.state) ∧
    (∃ t, exec .ceaseTransmission (stateAt (inState .fileTransferActive) none none) = .next t ∧
      t.block.prev ≠ (inState .fileTransferActive).prev) ∧
    (∃ t, exec .resetSat State.reset = .next t ∧ t.block.halted ≠ State.reset.block.halted) ∧
    (∃ t, exec .beginFileTransfer (stateAt { inState .activePass with retry := 1#8 } none none) = .next t ∧
      t.block.retry ≠ 1#8) ∧
    (∃ t, exec .sendAck State.reset = .next t ∧ t.block.ctrlValid ≠ State.reset.block.ctrlValid) ∧
    (∃ t, exec .sendNack State.reset = .next t ∧ t.block.ctrlKind ≠ State.reset.block.ctrlKind) ∧
    (∃ t, exec .ackReceived (stateAt (inFlight .await) none none) = .next t ∧ t.block.phase ≠ (inFlight .await).phase) ∧
    (∃ t, exec (.addMessage 0#16) (stateAt Block.reset (some []) none) = .next t ∧ t.block.queue ≠ []) ∧
    (∃ t, exec .nextFrame (stateAt (oneWaiting .idle) none (some enough)) = .next t ∧
      t.block.queue ≠ (oneWaiting .idle).queue ∧ t.block.retValid ≠ (oneWaiting .idle).retValid) ∧
    ∃ t, exec .nextFrame (stateAt twoFrames none (some enough)) = .next t ∧ t.block.curValid ≠ twoFrames.curValid := by
  refine ⟨⟨_, rfl, by decide⟩, ⟨_, rfl, ?_⟩, ⟨_, rfl, by decide⟩, ⟨_, rfl, by decide⟩, ⟨_, rfl, by decide⟩,
    ⟨_, rfl, by decide⟩, ⟨_, rfl, by decide⟩, ⟨_, rfl, by decide⟩, ⟨_, rfl, ?_⟩, ⟨_, rfl, ?_⟩, ⟨_, rfl, ?_⟩⟩
  · show (retryStep Config.chosen lastChance).1.state ≠ _
    rw [lastChance_exhausts]
    decide
  · show (runAddMessage Config.chosen 0#16 (some []) Block.reset).1.queue ≠ []
    have := Config.chosen.queueDepth_pos
    unfold runAddMessage needData
    simp only
    rw [if_neg (by simp [Block.reset]; omega), if_neg (by simp [used, Block.reset])]
    simp [respond, Block.reset]
  · show (runNextFrame Config.chosen (some enough) (oneWaiting .idle)).1.queue ≠ _ ∧
      (runNextFrame Config.chosen (some enough) (oneWaiting .idle)).1.retValid ≠ _
    simp only [runNextFrame, needCap, engineNext_oneWaiting, emit_of_fits smallFrame_fits]
    decide
  · show (runNextFrame Config.chosen (some enough) twoFrames).1.curValid ≠ _
    simp only [runNextFrame, needCap, engineNext_twoFrames]
    rw [emit_of_fits (by simp [enough, zeros])]
    decide

theorem witness_ReadOnlyCommandsAreIdempotent :
    (∃ t, exec .crc32 (stateAt Block.reset (some hello) none) = .next t) ∧
    (∃ t, exec (.generate 1#16) (stateAt Block.reset (some hello) (some enough)) = .next t) ∧
    (∃ t, exec .parse (stateAt Block.reset (some smallFrame) none) = .next t) ∧
    (∃ t, exec .currentFrame (stateAt (inFlight .await) none (some enough)) = .next t) ∧
    ∃ t, exec .readStatus (stateAt (inFlight .await) none none) = .next t :=
  ⟨⟨_, rfl⟩, ⟨_, rfl⟩, ⟨_, rfl⟩, ⟨_, rfl⟩, ⟨_, rfl⟩⟩

theorem witness_BlockSeesOnlyTheCommand :
    State.reset.block = (stateAt Block.reset (some hello) (some 1)).block ∧
    State.reset ≠ stateAt Block.reset (some hello) (some 1) := by decide

theorem witness_ChecksumDetectsBursts :
    (0 < 8 * [0x00#8].length ∧ 7 < 8 * [0x00#8].length) ∧
    [0x00#8, 0x00#8, 0x00#8, 0x00#8].length = [0x01#8, 0x00#8, 0x00#8, 0x80#8].length ∧
    [0x00#8, 0x00#8, 0x00#8, 0x00#8] ≠ [0x01#8, 0x00#8, 0x00#8, 0x80#8] ∧
    ∀ q, bitAt [0x00#8, 0x00#8, 0x00#8, 0x00#8] q ≠ bitAt [0x01#8, 0x00#8, 0x00#8, 0x80#8] q → 0 ≤ q ∧ q < 0 + 32 := by
  refine ⟨by decide, rfl, by decide, fun q h => ⟨Nat.zero_le q, ?_⟩⟩
  by_contra hq
  apply h
  have h4 : 4 ≤ q / 8 := by omega
  simp [bitAt, byteAt, List.getD, h4]

theorem witness_Crc32Command :
    (stateAt Block.reset none none).port.data = none ∧ (stateAt Block.reset (some hello) none).port.data = some hello :=
  ⟨rfl, rfl⟩

theorem witness_GenerateCommand :
    (stateAt Block.reset none (some 12)).port.data = none ∧
    (stateAt Block.reset (some []) none).port.cap = none ∧
    Config.chosen.maxFrameSize < (zeros (Config.chosen.maxFrameSize + 1)).length ∧
    (zeros Config.chosen.maxFrameSize).length ≤ Config.chosen.maxFrameSize ∧
    enough - 1 < headerSize + (zeros Config.chosen.maxFrameSize).length ∧
    headerSize + (zeros Config.chosen.maxFrameSize).length ≤ enough ∧
    (stateAt Block.reset (some (zeros Config.chosen.maxFrameSize)) (some enough)).port.data =
      some (zeros Config.chosen.maxFrameSize) ∧
    (stateAt Block.reset (some (zeros Config.chosen.maxFrameSize)) (some enough)).port.cap = some enough ∧
    (stateAt Block.reset (some hello) (some 64)).port.data = some [0x48#8, 0x45#8, 0x4C#8, 0x4C#8, 0x4F#8] := by
  refine ⟨rfl, rfl, by simp [zeros], by simp [zeros], ?_, by simp [zeros, enough], rfl, rfl, rfl⟩
  simp [zeros, enough, headerSize]

/-- A frame whose preamble is one off; one whose checksum field is 1 over an empty payload; and a good one. -/
theorem witness_ParseCommand :
    (stateAt Block.reset none none).port.data = none ∧
    headerSize + Config.chosen.maxFrameSize < (zeros (enough + 1)).length ∧
    (zeros 11).length < headerSize ∧
    (headerSize ≤ (le32 (Config.chosen.preamble + 1#32) ++ zeros 8).length ∧
      (le32 (Config.chosen.preamble + 1#32) ++ zeros 8).length ≤ headerSize + Config.chosen.maxFrameSize ∧
      rdLe32 (le32 (Config.chosen.preamble + 1#32) ++ zeros 8) 0 ≠ Config.chosen.preamble) ∧
    (rdLe32 (le32 Config.chosen.preamble ++ (le32 1#32 ++ zeros 4)) 0 = Config.chosen.preamble ∧
      rdLe32 (le32 Config.chosen.preamble ++ (le32 1#32 ++ zeros 4)) 4 ≠
        crc32 (payloadOf (le32 Config.chosen.preamble ++ (le32 1#32 ++ zeros 4)))) ∧
    (rdLe32 (le32 Config.chosen.preamble ++ (le32 0#32 ++ zeros 4)) 0 = Config.chosen.preamble ∧
      rdLe32 (le32 Config.chosen.preamble ++ (le32 0#32 ++ zeros 4)) 4 =
        crc32 (payloadOf (le32 Config.chosen.preamble ++ (le32 0#32 ++ zeros 4)))) ∧
    (stateAt Block.reset (some frameHello) none).port.data = some frameHello := by
  refine ⟨rfl, by simp [zeros, enough], by decide, ⟨by simp [zeros, headerSize], by simp [zeros, headerSize], ?_⟩,
    ⟨rdLe32_le32 _ _, by decide⟩, ⟨rdLe32_le32 _ _, by decide⟩, rfl⟩
  rw [rdLe32_le32]
  generalize Config.chosen.preamble = x
  intro h
  have : (1#32 : U32) = 0#32 := by
    have h2 := congrArg (fun y => y - x) h
    simp [BitVec.add_comm x] at h2
  exact absurd this (by decide)

theorem witness_ParseInvertsGenerate :
    (zeros Config.chosen.maxFrameSize).length ≤ Config.chosen.maxFrameSize ∧
    (stateAt Block.reset (some (wrap Config.chosen 0xFFFF#16 (zeros Config.chosen.maxFrameSize))) none).port.data =
      some (wrap Config.chosen 0xFFFF#16 (zeros Config.chosen.maxFrameSize)) := ⟨by simp [zeros], rfl⟩

/-- Both ends of each field's range of bits, in a frame with a one-byte payload. -/
theorem witness_SingleBitErrors :
    [0x00#8].length ≤ Config.chosen.maxFrameSize ∧
    (stateAt Block.reset (some (flipBit (wrap Config.chosen 1#16 [0x00#8]) 103)) none).port.data =
      some (flipBit (wrap Config.chosen 1#16 [0x00#8]) 103) ∧
    31 < 8 * 4 ∧ (8 * 4 ≤ 32 ∧ 63 < 8 * 8) ∧ (8 * 8 ≤ 64 ∧ 79 < 8 * 10) ∧ (8 * 10 ≤ 80 ∧ 95 < 8 * 12) ∧
    (8 * 12 ≤ 96 ∧ 103 < 8 * (12 + [0x00#8].length)) := ⟨Config.chosen.maxFrameSize_pos, rfl, by decide⟩

theorem witness_AddMessageCommand :
    (stateAt Block.reset none none).port.data = none ∧
    (stateAt { Block.reset with queue := List.replicate Config.chosen.queueDepth ⟨0#16, []⟩ }
      (some []) none).block.queue.length = Config.chosen.queueDepth ∧
    Config.chosen.msgStoreBytes < used Block.reset + (zeros (Config.chosen.msgStoreBytes + 1)).length ∧
    Block.reset.queue.length ≠ Config.chosen.queueDepth ∧
    used Block.reset + (zeros Config.chosen.msgStoreBytes).length ≤ Config.chosen.msgStoreBytes ∧
    ((stateAt Block.reset (some (zeros 300)) none).block = State.reset.block ∧ (zeros 300).length = 300) := by
  have := Config.chosen.queueDepth_pos
  refine ⟨rfl, by simp [stateAt], by simp [used, Block.reset, zeros], ?_, by simp [used, Block.reset, zeros], rfl,
    List.length_replicate⟩
  simp [Block.reset]
  omega

/-- The four ways: from the open cursor or from the head, reaching the end or not. -/
theorem witness_EngineNextRule :
    (Block.reset.curValid = false ∧ Block.reset.queue = []) ∧
    ((oneWaiting .idle).curValid = false ∧ (oneWaiting .idle).queue = ⟨0#16, []⟩ :: [] ∧
      0 + min Config.chosen.maxFrameSize ([] : ByteString).length = ([] : ByteString).length) ∧
    (twoFrames.curValid = false ∧ twoFrames.queue = ⟨0#16, zeros (Config.chosen.maxFrameSize + 1)⟩ :: [] ∧
      0 + min Config.chosen.maxFrameSize ((zeros (Config.chosen.maxFrameSize + 1)).length - 0) ≠
        (zeros (Config.chosen.maxFrameSize + 1)).length) ∧
    (({ Block.reset with curValid := true, curBody := hello, curOff := 4 } : Block).curValid = true ∧
      4 + min Config.chosen.maxFrameSize (hello.length - 4) = hello.length) ∧
    (({ Block.reset with
        curValid := true, curBody := zeros (Config.chosen.maxFrameSize + 2), curOff := 1 } : Block).curValid = true ∧
      1 + min Config.chosen.maxFrameSize ((zeros (Config.chosen.maxFrameSize + 2)).length - 1) ≠
        (zeros (Config.chosen.maxFrameSize + 2)).length) := by
  have := Config.chosen.maxFrameSize_pos
  refine ⟨⟨rfl, rfl⟩, ⟨rfl, rfl, by simp⟩, ⟨rfl, rfl, by simp [zeros]⟩, ⟨rfl, ?_⟩, ⟨rfl, ?_⟩⟩
  · simp [hello]
    omega
  · simp [zeros]
    omega

theorem witness_NextFrameCommand :
    (stateAt Block.reset none none).port.cap = none ∧
    (stateAt Block.reset none (some 0)).port.cap = some 0 ∧ engineNext Config.chosen Block.reset = none ∧
    engineNext Config.chosen (oneWaiting .idle) =
      some (smallFrame, { inState .idle with retValid := true, retFrame := smallFrame }) ∧
    11 < smallFrame.length ∧ smallFrame.length ≤ 12 ∧
    (stateAt { State.reset.block with queue := [⟨0x0301#16, (List.range 300).map (BitVec.ofNat 8)⟩] } none
      (some 112)).port.cap = some 112 :=
  ⟨rfl, rfl, (engineNext_none_iff _ _).2 ⟨rfl, rfl⟩, engineNext_oneWaiting .idle, by decide, by decide, rfl⟩

theorem witness_CurrentFrameCommand :
    (stateAt Block.reset none none).port.cap = none ∧
    (stateAt (inFlight .await) none (some 12)).port.cap = some 12 ∧ Block.reset.retValid = false ∧
    (inFlight .await).retValid = true ∧ 11 < (inFlight .await).retFrame.length ∧
    (inFlight .await).retFrame.length ≤ 12 ∧
    ((stateAt Block.reset none (some 12)).block = State.reset.block ∧
      ∃ b, (stateAt (exhausted lastChance) none (some 0)).block = exhausted b) :=
  ⟨rfl, rfl, rfl, rfl, by decide, by decide, rfl, lastChance, rfl⟩

theorem witness_MessageYieldsItsFrames :
    (1 ≤ (⟨0#16, [0x00#8]⟩ : Message).body.length ∧
      (messageFrames Config.e0 ⟨0#16, zeros 101⟩)[1]? = some (wrap Config.e0 0#16 [0x00#8])) ∧
    twoFrames.curValid = false ∧ twoFrames.queue = ⟨0#16, zeros (Config.chosen.maxFrameSize + 1)⟩ :: [] ∧
    headerSize + Config.chosen.maxFrameSize ≤ enough := by
  exact ⟨⟨by decide, by decide +kernel⟩, rfl, rfl, le_refl _⟩

theorem witness_QueueDrainsInOrder :
    twoFrames.curValid = false ∧ headerSize + Config.chosen.maxFrameSize ≤ enough := ⟨rfl, le_refl _⟩

/-- CURRENT_FRAME that answers OK, from a retained frame. -/
theorem currentFrame_ok {b : Block} (h : b.retValid = true) (hf : b.retFrame = smallFrame) :
    runCurrentFrame (some enough) b = (b, frameResponse smallFrame) := by
  simp [runCurrentFrame, needCap, h, hf, emit_of_fits smallFrame_fits]

/-- CURRENT_FRAME, SEND_ACK, CURRENT_FRAME. -/
theorem witness_RetransmissionIsIdempotent :
    decode (request .currentFrame none (some enough)).word = .ok .currentFrame ∧
    ∃ t u v, StepsBy .tx (request .currentFrame none (some enough)) (stateAt (inFlight .resend) none none) t ∧
      t.port.response.status = .ok ∧
      RunsVia (fun x q y => ¬ WritesRetained x q y) t u ∧
      StepsBy .rx (request .currentFrame none (some enough)) u v ∧ v.port.response.status = .ok := by
  refine ⟨by decide, _, _, _, stepsBy_of_exec (i := .currentFrame) (by decide) rfl, ?_,
    .command .rx (request .sendAck none none) _ _ _ (stepsBy_of_exec (i := .sendAck) (by decide) rfl) ?_ (.done _),
    stepsBy_of_exec (i := .currentFrame) (by decide) rfl, ?_⟩
  · show (runCurrentFrame (some enough) (inFlight .resend)).2.status = .ok
    rw [currentFrame_ok rfl rfl]; rfl
  · have h : decode (request .sendAck none none).word = .ok .sendAck := by decide
    simp [WritesRetained, EmitsFileFrame, IsRetry, h]
  · show (runCurrentFrame (some enough)
      { (runCurrentFrame (some enough) (inFlight .resend)).1 with ctrlValid := true, ctrlKind := .ack }).2.status = .ok
    rw [currentFrame_ok (b := inFlight .resend) rfl rfl, currentFrame_ok rfl rfl]; rfl

/-- NEXT_FRAME, then CURRENT_FRAME. -/
theorem witness_RetransmissionIsIdempotent_first :
    ∃ t u v, StepsBy .tx (request .nextFrame none (some enough)) (stateAt (oneWaiting .idle) none none) t ∧
      (decode (request .nextFrame none (some enough)).word = .ok .nextFrame ∧ t.port.response.status = .ok) ∧
      RunsVia (fun x q y => ¬ WritesRetained x q y) t u ∧
      StepsBy .rx (request .currentFrame none (some enough)) u v ∧
      (decode (request .currentFrame none (some enough)).word = .ok .currentFrame ∧ v.port.response.status = .ok) := by
  have h : runNextFrame Config.chosen (some enough) (oneWaiting .idle) =
      ({ inState .idle with retValid := true, retFrame := smallFrame }, frameResponse smallFrame) := by
    simp only [runNextFrame, needCap, engineNext_oneWaiting, emit_of_fits smallFrame_fits]
  refine ⟨_, _, _, stepsBy_of_exec (i := .nextFrame) (by decide) rfl, ⟨by decide, ?_⟩, .done _,
    stepsBy_of_exec (i := .currentFrame) (by decide) rfl, by decide, ?_⟩
  · show (runNextFrame Config.chosen (some enough) (oneWaiting .idle)).2.status = .ok
    rw [h]; rfl
  · show (runCurrentFrame (some enough) (runNextFrame Config.chosen (some enough) (oneWaiting .idle)).1).2.status = .ok
    rw [h, currentFrame_ok rfl rfl]; rfl

theorem witness_StoreAccounting :
    (∃ t, exec (.addMessage 0#16) (stateAt Block.reset (some []) none) = .next t ∧ t.port.response.status = .ok) ∧
    (∃ F b', engineNext Config.chosen twoFrames = some (F, b') ∧ b'.curValid = true) ∧
    (∃ F b', engineNext Config.chosen (oneWaiting .idle) = some (F, b') ∧ b'.curValid = false) ∧
    ∃ t, exec .nackReceived (stateAt lastChance none none) = .next t ∧ t.port.response.status = .retryExhausted := by
  refine ⟨⟨_, rfl, ?_⟩, ⟨_, _, engineNext_twoFrames, rfl⟩, ⟨_, _, engineNext_oneWaiting .idle, rfl⟩, ⟨_, rfl, ?_⟩⟩
  · show (runAddMessage Config.chosen 0#16 (some []) Block.reset).2.status = .ok
    have := Config.chosen.queueDepth_pos
    unfold runAddMessage needData
    simp only
    rw [if_neg (by simp [Block.reset]; omega), if_neg (by simp [used, Block.reset])]
    rfl
  · show (retryStep Config.chosen lastChance).2.status = _
    rw [lastChance_exhausts]; rfl

/-- Every branch of POLL: the state it needs, and the capacities on both sides of each frame's length. -/
theorem witness_PollCommand :
    (stateAt Block.reset none none).port.cap = none ∧ (stateAt Block.reset none (some 12)).port.cap = some 12 ∧
    ((inState .suspended).state = .suspended ∧ { inState .activePass with halted := true }.halted = true) ∧
    ({ inState .activePass with ctrlValid := true }.state = .activePass ∧
      headerSize - 1 < (ctrlFrame Config.chosen .ack).length ∧
      (ctrlFrame Config.chosen .ack).length ≤ (ctrlFrame Config.chosen .ack).length) ∧
    ((inState .activePass).halted = false ∧ (inState .activePass).ctrlValid = false) ∧
    ((inFlight .await).state = .fileTransferActive ∧ (inFlight .await).phase = .await) ∧
    ((inFlight .resend).phase = .resend ∧ 11 < (inFlight .resend).retFrame.length ∧
      (inFlight .resend).retFrame.length ≤ 12) ∧
    ((inState .fileTransferActive).phase = .ready ∧ engineNext Config.chosen (inState .fileTransferActive) = none) ∧
    ((oneWaiting .fileTransferActive).phase = .ready ∧
      engineNext Config.chosen (oneWaiting .fileTransferActive) =
        some (smallFrame, { inState .fileTransferActive with retValid := true, retFrame := smallFrame }) ∧
      11 < smallFrame.length ∧ smallFrame.length ≤ 12) ∧
    ({ inState .fileTransferActive with queue := [⟨0x0301#16, hello⟩] }.queue =
      [⟨0x0301#16, [0x48#8, 0x45#8, 0x4C#8, 0x4C#8, 0x4F#8]⟩]) := by
  refine ⟨rfl, rfl, ⟨rfl, rfl⟩, ⟨rfl, ?_, le_refl _⟩, ⟨rfl, rfl⟩, ⟨rfl, rfl⟩, ⟨rfl, by decide, by decide⟩,
    ⟨rfl, (engineNext_none_iff _ _).2 ⟨rfl, rfl⟩⟩, ⟨rfl, engineNext_oneWaiting _, by decide, by decide⟩, rfl⟩
  simp [ctrlFrame, headerSize]
  omega

theorem witness_ControlPreemptsBulkData :
    ({ inFlight .resend with ctrlValid := true }.ctrlValid = true ∧
      ∃ t, exec .poll (stateAt { inFlight .resend with ctrlValid := true } none (some enough)) = .next t) ∧
    (inFlight .resend).state = .fileTransferActive ∧ (inFlight .resend).halted = false ∧
    headerSize + Config.chosen.maxFrameSize ≤ enough ∧
    ({ inState .suspended with ctrlValid := true }.ctrlValid = true ∧ (inState .suspended).state = .suspended) ∧
    ({ inState .activePass with ctrlValid := true }.ctrlValid = true ∧
      (stateAt { inState .activePass with ctrlValid := true } none (some 11)).port.cap = some 11 ∧
      11 < (ctrlFrame Config.chosen .ack).length) :=
  ⟨⟨rfl, _, rfl⟩, rfl, rfl, le_refl _, ⟨rfl, rfl⟩, rfl, rfl, by simp [ctrlFrame, headerSize]; omega⟩

theorem witness_AckReceivedCommand :
    (inState .idle).state = .idle ∧ (inState .suspended).state = .suspended ∧
    (inState .activePass).state = .activePass ∧ (inFlight .await).state = .fileTransferActive := ⟨rfl, rfl, rfl, rfl⟩

theorem witness_NackReceivedCommand :
    (inState .idle).state = .idle ∧ (inState .activePass).state = .activePass ∧
    (inFlight .await).state = .fileTransferActive ∧ ({} : Config).retryMax = 0 ∧
    (inFlight .await).phase = .await ∧ (inFlight .await).retry = 0#8 ∧ (inFlight .await).retValid = true :=
  ⟨rfl, rfl, rfl, rfl, rfl, rfl, rfl⟩

theorem witness_AckTimeoutCommand :
    (inState .suspended).state = .suspended ∧ (inFlight .await).state = .fileTransferActive ∧
    { inFlight .await with retry := 3#8 }.retry = 3#8 ∧ { inFlight .await with retry := 3#8 }.phase = .await :=
  ⟨rfl, rfl, rfl, rfl⟩

/-- POLL emits the only frame. -/
theorem poll_oneWaiting :
    runPoll Config.chosen (some enough) (oneWaiting .fileTransferActive) =
      ({ inState .fileTransferActive with retValid := true, retFrame := smallFrame, phase := .await },
        frameResponse smallFrame) := by
  show pollFile Config.chosen enough (oneWaiting .fileTransferActive) = _
  unfold pollFile
  simp only [engineNext_oneWaiting]
  exact emit_of_fits smallFrame_fits _ _

theorem witness_StopAndWait :
    (∃ t, StepsBy .tx (request .poll none (some enough)) (stateAt (oneWaiting .fileTransferActive) none none) t ∧
      EmitsFileFrame (stateAt (oneWaiting .fileTransferActive) none none) (request .poll none (some enough)) t) ∧
    (stateAt (inFlight .await) none none).block.phase = .await ∧
    ∃ u v, RunsVia (fun x q y => ¬ EndsWait x q y) (stateAt (inFlight .await) none none) u ∧
      StepsBy .tx (request .poll none (some enough)) u v := by
  refine ⟨⟨_, stepsBy_of_exec (i := .poll) (by decide) rfl, by decide, rfl, ?_⟩, rfl, _, _,
    .command .rx (request .sendAck none none) _ _ _ (stepsBy_of_exec (i := .sendAck) (by decide) rfl) ?_ (.done _),
    stepsBy_of_exec (i := .poll) (by decide) rfl⟩
  · show (runPoll Config.chosen (some enough) (oneWaiting .fileTransferActive)).2.status = .ok
    rw [poll_oneWaiting]; rfl
  · have h : decode (request .sendAck none none).word = .ok .sendAck := by decide
    simp [EndsWait, IsRetry, h]

theorem witness_StopAndWaitAsWorded :
    (stateAt (oneWaiting .fileTransferActive) none none).Inv ∧
    ∃ t v, StepsBy .tx (request .poll none (some enough)) (stateAt (oneWaiting .fileTransferActive) none none) t ∧
      EmitsFileFrame (stateAt (oneWaiting .fileTransferActive) none none) (request .poll none (some enough)) t ∧
      RunsVia (fun x q y => ¬ EndsWaitAsWorded x q y) t t ∧ StepsBy .tx (request .poll none (some enough)) t v := by
  refine ⟨⟨Config.chosen.queueDepth_pos, by simp [stateAt, used, oneWaiting, inState, Block.reset],
      by simp [stateAt, oneWaiting, inState, Block.reset], by simp [stateAt, oneWaiting, inState, Block.reset],
      by simp [stateAt, oneWaiting, inState, Block.reset], .inl rfl,
      by simp [stateAt, oneWaiting, inState, Block.reset], by simp [stateAt, oneWaiting, inState, Block.reset]⟩,
    _, _, stepsBy_of_exec (i := .poll) (by decide) rfl, ⟨by decide, rfl, ?_⟩, .done _,
    stepsBy_of_exec (i := .poll) (by decide) rfl⟩
  show (runPoll Config.chosen (some enough) (oneWaiting .fileTransferActive)).2.status = .ok
  rw [poll_oneWaiting]; rfl

theorem witness_ExhaustionReportedOnce :
    ∃ t u, StepsBy .rx (request .nackReceived none none) (stateAt lastChance none none) t ∧
      t.port.response.status = .retryExhausted ∧
      RunsVia (fun _ q _ => decode q.word ≠ .ok .beginPass) t u := by
  refine ⟨_, _, stepsBy_of_exec (i := .nackReceived) (by decide) rfl, ?_,
    .command .tx (request .poll none none) _ _ _ (stepsBy_of_exec (i := .poll) (by decide) rfl) (by decide) (.done _)⟩
  show (retryStep Config.chosen lastChance).2.status = _
  rw [lastChance_exhausts]; rfl

/-- POLL re-emits the retained frame of a block in RESEND. -/
theorem poll_resend :
    runPoll Config.chosen (some enough) (inFlight .resend) = (inFlight .await, frameResponse smallFrame) :=
  emit_of_fits smallFrame_fits _ _

/-- A run with one retransmission, and a run of RETRY_MAX NACKs from retry 0, the most that the ceiling allows. -/
theorem witness_RetryCeiling :
    (∃ l u, RunsBy l (stateAt (inFlight .resend) none none) u ∧ (∀ x ∈ l, Consecutive x.req.word) ∧
      l.countP Exchange.retransmits = 1 ∧ ∀ x ∈ l, x.left.port.response.status ≠ .retryExhausted) ∧
    ((inState .activePass).state = .activePass ∧
      (∀ x ∈ List.replicate Config.chosen.retryMax (Agent.rx, request .nackReceived none none),
        Consecutive x.2.word ∧ decode x.2.word ≠ .ok .ceaseTransmission) ∧
      Config.chosen.retryMax =
        ((List.replicate Config.chosen.retryMax (Agent.rx, request .nackReceived none none)).filter
          fun x => x.2.word = encode .nackReceived ∨ x.2.word = encode .ackTimeout).length ∧
      (inState .activePass).retry.toNat + Config.chosen.retryMax ≤ Config.chosen.retryMax) ∧
    lastChance.state = .fileTransferActive ∧ lastChance.retry.toNat = Config.chosen.retryMax := by
  have h : (request .nackReceived none none).word = encode .nackReceived := rfl
  have hs : ∀ t : State, t.port.response = (runPoll Config.chosen (some enough) (inFlight .resend)).2 →
      t.port.response.status = .ok := fun t ht => by rw [ht, poll_resend]; rfl
  refine ⟨⟨[⟨_, request .poll none (some enough), _⟩], _, .command .tx _ _ _ _ _
      (stepsBy_of_exec (i := .poll) (by decide) rfl) (.done _), ?_, ?_, ?_⟩,
    ⟨rfl, fun x hx => ?_, ?_, by simp [inState, Block.reset]⟩, rfl, lastChance_retry⟩
  · simp only [List.mem_singleton, forall_eq]
    unfold Consecutive
    decide
  · rw [List.countP_cons_of_pos ((Exchange.retransmits_iff _).2 ⟨rfl, rfl, rfl, hs _ rfl⟩)]
    rfl
  · simp only [List.mem_singleton, forall_eq]
    rw [hs _ rfl]
    exact Status.noConfusion
  · rw [List.eq_of_mem_replicate hx]
    unfold Consecutive
    decide
  · rw [List.filter_replicate_of_pos (by simp [h])]
    simp

theorem witness_PollCapacity :
    (∃ t, exec .poll (stateAt (inFlight .resend) none (some 11)) = .next t ∧
      t.port.response.status = .bufferTooSmall) ∧
    (∃ t, exec .poll ((stateAt (oneWaiting .fileTransferActive) none none).latch (request .poll none (some enough))) =
        .next t ∧ t.port.response.status = .ok ∧ 11 < t.port.response.out.length) ∧
    ({ inState .activePass with ctrlValid := true }.ctrlValid = true ∧ 0 < (ctrlFrame Config.chosen .ack).length) ∧
    (stateAt lastChance none (some enough)).Inv ∧ (stateAt lastChance none (some enough)).port.cap = some enough ∧
    headerSize + Config.chosen.maxFrameSize ≤ enough ∧
    ∃ t, exec .poll (stateAt lastChance none (some enough)) = .next t := by
  refine ⟨⟨_, rfl, ?_⟩, ⟨_, rfl, ?_⟩, ⟨rfl, by simp [ctrlFrame, headerSize]⟩,
    inv_of_quiet rfl rfl rfl rfl lastChance_retry.le (by decide), rfl, le_refl _, _, rfl⟩
  · show (emit 11 smallFrame (inFlight .resend) { inFlight .resend with phase := .await }).2.status = _
    rw [emit_of_too_small (by decide)]; rfl
  · show (runPoll Config.chosen (some enough) (oneWaiting .fileTransferActive)).2.status = .ok ∧
      11 < (runPoll Config.chosen (some enough) (oneWaiting .fileTransferActive)).2.out.length
    rw [poll_oneWaiting]
    exact ⟨rfl, by decide⟩

theorem witness_LatestControlRequestWins :
    (Instr.sendNack = .sendAck ∨ Instr.sendNack = .sendNack) ∧ (inState .activePass).state = .activePass ∧
    (inState .activePass).halted = false ∧ headerSize + Config.chosen.maxFrameSize ≤ enough :=
  ⟨.inr rfl, rfl, rfl, le_refl _⟩

theorem witness_NextFrameBypassesArbiter :
    (oneWaiting .fileTransferActive).state = .fileTransferActive ∧ (oneWaiting .fileTransferActive).halted = false ∧
    (oneWaiting .fileTransferActive).ctrlValid = false ∧
    engineNext Config.chosen (oneWaiting .fileTransferActive) =
      some (smallFrame, { inState .fileTransferActive with retValid := true, retFrame := smallFrame }) ∧
    headerSize + Config.chosen.maxFrameSize ≤ enough := ⟨rfl, rfl, rfl, engineNext_oneWaiting _, le_refl _⟩

theorem witness_PassExpiryLosesFrameInFlight :
    (inFlight .await).state = .fileTransferActive ∧ (inFlight .await).phase = .await ∧
    (inFlight .await).halted = false ∧ (inFlight .await).ctrlValid = false ∧ (inFlight .await).retValid = true ∧
    headerSize + Config.chosen.maxFrameSize ≤ enough ∧ (inFlight .await).retFrame.length ≤ enough ∧
    ∃ F b', engineNext Config.chosen { inFlight .await with queue := [⟨0#16, []⟩] } = some (F, b') := by
  refine ⟨rfl, rfl, rfl, rfl, rfl, le_refl _, smallFrame_fits, ?_⟩
  cases h : engineNext Config.chosen { inFlight .await with queue := [⟨0#16, []⟩] } with
  | none => exact absurd ((engineNext_none_iff _ _).1 h).2 (by simp)
  | some p => exact ⟨p.1, p.2, rfl⟩

theorem witness_AcknowledgedStreamDeliversQueue :
    (oneWaiting .fileTransferActive).state = .fileTransferActive ∧ (oneWaiting .fileTransferActive).halted = false ∧
    (oneWaiting .fileTransferActive).ctrlValid = false ∧ (oneWaiting .fileTransferActive).phase = .ready ∧
    (oneWaiting .fileTransferActive).retry = 0#8 ∧ (oneWaiting .fileTransferActive).curValid = false ∧
    headerSize + Config.chosen.maxFrameSize ≤ enough := ⟨rfl, rfl, rfl, rfl, rfl, rfl, le_refl _⟩

/-- The lifecycle states that BEGIN_PASS, BEGIN_FILE_TRANSFER, CEASE_TRANSMISSION and PASS_ELAPSED's statements name. -/
theorem witness_BeginPassCommand : (inState .suspended).state ≠ .idle ∧ (inState .idle).state = .idle := by decide

theorem witness_BeginFileTransferCommand :
    (inState .idle).state ≠ .activePass ∧ (inState .activePass).state = .activePass ∧
    { inFlight .resend with state := .activePass }.phase = .resend ∧
    { inFlight .resend with state := .activePass }.halted = false ∧
    { inFlight .resend with state := .activePass }.ctrlValid = false ∧
    { inFlight .resend with state := .activePass }.retFrame.length ≤ 12 := by decide

theorem witness_CeaseTransmissionCommand :
    (inState .idle).state = .idle ∧ (inState .suspended).state = .suspended ∧
    (inState .activePass).state = .activePass ∧ (inState .fileTransferActive).state = .fileTransferActive := by decide

theorem witness_ResumeTransmissionCommand :
    (inState .idle).state ≠ .suspended ∧ (inState .suspended).state = .suspended ∧
    { inState .suspended with prev := .fileTransferActive }.prev = .fileTransferActive ∧
    (inState .suspended).prev = .activePass := by decide

theorem witness_SuspendElapsedCommand :
    (inState .activePass).state ≠ .suspended ∧ (inState .suspended).state = .suspended ∧
    { inState .suspended with prev := .fileTransferActive }.prev = .fileTransferActive ∧
    (inState .suspended).prev = .activePass := by decide

theorem witness_PassElapsedCommand : (inState .idle).state = .idle ∧ (inState .suspended).state ≠ .idle := by decide

theorem witness_ResetSatCommand :
    ({ inState .activePass with halted := true, ctrlValid := true }.halted = true ∧
      (stateAt { inState .activePass with halted := true, ctrlValid := true } none (some 64)).port.cap = some 64) ∧
    (∃ t, exec .beginPass State.reset = .next t) ∧
    ∃ t, exec .beginPass (stateAt { Block.reset with halted := true } none none) = .next t :=
  ⟨⟨rfl, rfl⟩, ⟨_, rfl⟩, ⟨_, rfl⟩⟩

theorem witness_HaltedUntilReset :
    (∃ t, exec .resetSat State.reset = .next t) ∧
    (stateAt { Block.reset with halted := true } none (some 0)).block.halted = true ∧
    (∀ rest, ((stateAt { Block.reset with halted := true } none (some 0)).withSchedule [.rxTurn]).host.schedule ≠
      .reset :: rest) ∧
    (∃ t, step ((stateAt { Block.reset with halted := true } none (some 0)).withSchedule [.rxTurn]) = .next t) ∧
    ∃ t, exec .poll (stateAt { Block.reset with halted := true } none (some 0)) = .next t :=
  ⟨⟨_, rfl⟩, rfl, (fun _ h => by cases h), ⟨_, rfl⟩, ⟨_, rfl⟩⟩

theorem witness_ReadStatusCommand :
    { Block.reset with queue := List.replicate 255 ⟨0#16, []⟩ }.queue.length ≤ 255 ∧
    { inState .fileTransferActive with queue := [⟨0#16, []⟩, ⟨0#16, []⟩] }.queue.length = 2 :=
  ⟨List.length_replicate.le, rfl⟩

theorem witness_LifecycleTable :
    isEvent .passElapsed = true ∧ (isEvent .poll = false ∧ ∃ t, exec .poll State.reset = .next t) ∧
    ∃ t, exec .ceaseTransmission (stateAt (inState .fileTransferActive) none none) = .next t :=
  ⟨rfl, ⟨rfl, _, rfl⟩, _, rfl⟩

theorem witness_TxTransmitsWhatPollReturns :
    decode (request .poll none (some enough)).word = .ok .poll ∧
    (∃ t, StepsBy .tx (request .poll none (some enough)) (stateAt (oneWaiting .fileTransferActive) none none) t ∧
      t.port.response.status = .ok) ∧
    (∃ t, StepsBy .tx (request .poll none none) State.reset t ∧ t.port.response.status ≠ .ok) ∧
    (decode (request .currentFrame none (some enough)).word ≠ .ok .poll ∧
      ∃ t, StepsBy .tx (request .currentFrame none (some enough)) (stateAt (inFlight .await) none none) t) ∧
    (∀ r : Request, HostEvent.command .rx (request .poll none (some enough)) ≠ .command .tx r) ∧
    ∃ t, step ((stateAt (oneWaiting .fileTransferActive) none none).withSchedule
      [.command .rx (request .poll none (some enough))]) = .next t := by
  refine ⟨by decide, ⟨_, stepsBy_of_exec (i := .poll) (by decide) rfl, ?_⟩,
    ⟨_, stepsBy_of_exec (i := .poll) (by decide) rfl, by decide⟩,
    ⟨by decide, _, stepsBy_of_exec (i := .currentFrame) (by decide) rfl⟩, (fun _ h => by cases h),
    _, stepsBy_of_exec (i := .poll) (by decide) rfl⟩
  show (runPoll Config.chosen (some enough) (oneWaiting .fileTransferActive)).2.status = .ok
  rw [poll_oneWaiting]; rfl

theorem witness_BlockResetKeepsPortAndHost :
    ((stateAt lastChance (some []) (some 3)).withSchedule [.reset, .rxTurn]).host.schedule = .reset :: [.rxTurn] := rfl

theorem witness_UplinkProcedure :
    (State.reset.host.rxReply = none ∧
      { State.reset with host := { State.reset.host with rxInbox := [[]] } }.host.rxInbox = [] :: []) ∧
    { State.reset with host := { State.reset.host with rxReply := some (Response.of .malformedHeader) } }.host.rxReply =
      some (Response.of .malformedHeader) := ⟨⟨rfl, rfl⟩, rfl⟩

end Sys2Proof.Tests
end

section
/-! What a command, and a step, can do to the block, said once as the relation `BlockMove`: the invariants of the block
are derived from its cases and unfold no command. -/

namespace Sys2Proof.Machine

/-! ### The moves of the block -/

/-- The result of a command on block `b`, with the operands of port `p`: what `exec` completes with
(`exec_eq_complete`). -/
def commandResult (c : Config) (i : Instr) (p : Port) (b : Block) : Result :=
  match i with
  | .crc32 => runCrc32 p.data b
  | .generate tag => runGenerate c tag p.data p.cap b
  | .parse => runParse c p.data b
  | .addMessage tag => runAddMessage c tag p.data b
  | .nextFrame => runNextFrame c p.cap b
  | .currentFrame => runCurrentFrame p.cap b
  | .poll => runPoll c p.cap b
  | .sendAck => respond { b with ctrlValid := true, ctrlKind := .ack } .ok
  | .sendNack => respond { b with ctrlValid := true, ctrlKind := .nack } .ok
  | .ackReceived => runAckReceived b
  | .nackReceived => retryStep c b
  | .ackTimeout => retryStep c b
  | .beginPass => runBeginPass b
  | .beginFileTransfer => runBeginFileTransfer b
  | .ceaseTransmission => runCeaseTransmission b
  | .resumeTransmission => endSuspension b
  | .suspendElapsed => endSuspension b
  | .passElapsed => runPassElapsed b
  | .resetSat => respond { b with halted := true } .ok
  | .readStatus => respondValue b (statusWord b)

theorem exec_eq_complete (i : Instr) (s : State) :
    exec i s = .next (s.complete (commandResult Config.chosen i s.port s.block)) := by
  cases i <;> rfl

/-- Everything one command can do to the block, each write with the guard under which it happens. -/
inductive BlockMove (c : Config) : Block → Block → Prop where
  /-- no write: a read-only command, or one that fails or is ignored (R212) -/
  | keep (b : Block) : BlockMove c b b
  /-- ADD_MESSAGE below both limits (R130, R131) -/
  | addMessage (b : Block) (m : Message) : b.queue.length ≠ c.queueDepth →
    used b + m.body.length ≤ c.msgStoreBytes → BlockMove c b { b with queue := b.queue ++ [m] }
  /-- NEXT_FRAME (R133) -/
  | nextFrame (b b' : Block) (F : ByteString) : engineNext c b = some (F, b') → BlockMove c b b'
  /-- POLL emits the pending control response (R150) -/
  | pollControl (b : Block) : BlockMove c b { b with ctrlValid := false }
  /-- POLL emits a new frame (R150) -/
  | pollNew (b b' : Block) (F : ByteString) : b.state = .fileTransferActive → b.phase = .ready →
    engineNext c b = some (F, b') → BlockMove c b { b' with phase := .await }
  /-- POLL emits the retained frame again (R150) -/
  | pollResend (b : Block) : b.state = .fileTransferActive → b.phase = .resend →
    BlockMove c b { b with phase := .await }
  /-- SEND_ACK and SEND_NACK (R155, R156) -/
  | requestControl (b : Block) (k : CtrlKind) : BlockMove c b { b with ctrlValid := true, ctrlKind := k }
  /-- ACK_RECEIVED (R160) -/
  | acknowledge (b : Block) : inContact b.state = true → BlockMove c b { b with retry := 0#8, phase := .ready }
  /-- RETRY_STEP up to the ceiling (R164) -/
  | retry (b : Block) : inContact b.state = true → b.retry.toNat + 1 ≤ c.retryMax →
    BlockMove c b { b with retry := BitVec.ofNat 8 (b.retry.toNat + 1),
                           phase := if b.retValid then .resend else b.phase }
  /-- RETRY_STEP beyond the ceiling (R165) -/
  | exhaust (b : Block) : inContact b.state = true → c.retryMax < b.retry.toNat + 1 → BlockMove c b (exhausted b)
  /-- BEGIN_PASS (R180) -/
  | beginPass (b : Block) : b.state = .idle → BlockMove c b { b with state := .activePass }
  /-- BEGIN_FILE_TRANSFER (R182) -/
  | beginFileTransfer (b : Block) : b.state = .activePass →
    BlockMove c b { b with state := .fileTransferActive, retry := 0#8 }
  /-- CEASE_TRANSMISSION (R184) -/
  | cease (b : Block) (p : PrevActive) : b.state = p.toLifecycle →
    BlockMove c b { b with prev := p, state := .suspended }
  /-- RESUME_TRANSMISSION and SUSPEND_ELAPSED (R186, R188) -/
  | resume (b : Block) : b.state = .suspended → BlockMove c b { b with state := b.prev.toLifecycle }
  /-- PASS_ELAPSED (R190) -/
  | passElapsed (b : Block) : b.state ≠ .idle →
    BlockMove c b { b with state := .idle, retry := 0#8, phase := .ready }
  /-- RESET_SAT (R193) -/
  | halt (b : Block) : BlockMove c b { b with halted := true }

/-! ### Every command is a move -/

section
variable (c : Config)

/-- A frame output that fits makes the move; one that does not keeps the block. -/
theorem emit_moves {b b' : Block} (h : BlockMove c b b') (n : Nat) (F : ByteString) :
    BlockMove c b (emit n F b b').1 := by
  rcases emit_cases n F b b' with ⟨-, he⟩ | ⟨-, he⟩
  · rw [he]; exact h
  · rw [he]; exact .keep b

theorem needCap_moves {b : Block} {k : Nat → Result} (h : ∀ n, BlockMove c b (k n).1) (cap : Option Nat) :
    BlockMove c b (needCap cap b k).1 := by
  cases cap with
  | none => exact .keep b
  | some n => exact h n

theorem runCrc32_block (data : Option ByteString) (b : Block) : (runCrc32 data b).1 = b := by
  cases data <;> rfl

theorem runGenerate_block (tag : U16) (data : Option ByteString) (cap : Option Nat) (b : Block) :
    (runGenerate c tag data cap b).1 = b := by
  rcases data with _ | B
  · rfl
  · rcases cap with _ | n
    · rfl
    · simp only [runGenerate, needData_some, needCap_some]
      split
      · rfl
      · split <;> rfl

theorem runParse_block (data : Option ByteString) (b : Block) : (runParse c data b).1 = b := by
  rcases data with _ | B
  · rfl
  · simp only [runParse, needData_some]
    repeat' split
    all_goals rfl

theorem runCurrentFrame_moves (cap : Option Nat) (b : Block) : BlockMove c b (runCurrentFrame cap b).1 := by
  refine needCap_moves c (fun n => ?_) cap
  split
  · exact emit_moves c (.keep b) n b.retFrame
  · exact .keep b

theorem runAddMessage_moves (tag : U16) (data : Option ByteString) (b : Block) :
    BlockMove c b (runAddMessage c tag data b).1 := by
  rcases data with _ | B
  · exact .keep b
  · simp only [runAddMessage, needData_some]
    split
    · exact .keep b
    · next hdepth =>
      split
      · exact .keep b
      · next hstore => exact .addMessage b ⟨tag, B⟩ hdepth (Nat.le_of_not_gt hstore)

theorem runNextFrame_moves (cap : Option Nat) (b : Block) : BlockMove c b (runNextFrame c cap b).1 := by
  refine needCap_moves c (fun n => ?_) cap
  split
  · exact .keep b
  · next F b' he => exact emit_moves c (.nextFrame b b' F he) n F

theorem pollFile_moves {b : Block} (hs : b.state = .fileTransferActive) (n : Nat) :
    BlockMove c b (pollFile c n b).1 := by
  unfold pollFile
  split
  · exact .keep b
  · next hp => exact emit_moves c (.pollResend b hs hp) n b.retFrame
  · next hp =>
    split
    · exact .keep b
    · next F b' he => exact emit_moves c (.pollNew b b' F hs hp he) n F

theorem runPoll_moves (cap : Option Nat) (b : Block) : BlockMove c b (runPoll c cap b).1 := by
  refine needCap_moves c (fun n => ?_) cap
  by_cases hh : b.halted = true
  · rw [if_pos hh]; exact .keep b
  rw [if_neg hh]
  by_cases hc : inContact b.state = true
  · rw [if_neg (by simp [hc])]
    split
    · exact emit_moves c (.pollControl b) n _
    · split
      · exact .keep b
      · next hs => exact pollFile_moves c (((inContact_iff _).mp hc).resolve_left hs) n
  · rw [if_pos (by simp [hc])]; exact .keep b

theorem runAckReceived_moves (b : Block) : BlockMove c b (runAckReceived b).1 := by
  unfold runAckReceived
  split
  · next hc => exact .acknowledge b hc
  · exact .keep b

theorem retryStep_moves (b : Block) : BlockMove c b (retryStep c b).1 := by
  rcases retryStep_cases c b with ⟨-, h⟩ | ⟨hc, hn, h⟩ | ⟨hc, hn, h⟩
  · rw [h]; exact .keep b
  · rw [h]; exact .exhaust b hc hn
  · rw [h]; exact .retry b hc hn

theorem runBeginPass_moves (b : Block) : BlockMove c b (runBeginPass b).1 := by
  unfold runBeginPass
  split
  · next hs => exact .beginPass b hs
  · exact .keep b

theorem runBeginFileTransfer_moves (b : Block) : BlockMove c b (runBeginFileTransfer b).1 := by
  unfold runBeginFileTransfer
  split
  · next hs => exact .beginFileTransfer b hs
  · exact .keep b

theorem runCeaseTransmission_moves (b : Block) : BlockMove c b (runCeaseTransmission b).1 := by
  unfold runCeaseTransmission
  split
  · next hs => exact .cease b .activePass hs
  · next hs => exact .cease b .fileTransferActive hs
  · exact .keep b
  · exact .keep b

theorem endSuspension_moves (b : Block) : BlockMove c b (endSuspension b).1 := by
  rcases endSuspension_cases b with ⟨hs, h⟩ | ⟨-, h⟩
  · rw [h]; exact .resume b hs
  · rw [h]; exact .keep b

theorem runPassElapsed_moves (b : Block) : BlockMove c b (runPassElapsed b).1 := by
  unfold runPassElapsed
  split
  · exact .keep b
  · next hs => exact .passElapsed b hs

theorem commandResult_moves (i : Instr) (p : Port) (b : Block) : BlockMove c b (commandResult c i p b).1 := by
  cases i with
  | crc32 => exact (runCrc32_block p.data b).symm ▸ .keep b
  | generate tag => exact (runGenerate_block c tag p.data p.cap b).symm ▸ .keep b
  | parse => exact (runParse_block c p.data b).symm ▸ .keep b
  | addMessage tag => exact runAddMessage_moves c tag p.data b
  | nextFrame => exact runNextFrame_moves c p.cap b
  | currentFrame => exact runCurrentFrame_moves c p.cap b
  | poll => exact runPoll_moves c p.cap b
  | sendAck => exact .requestControl b .ack
  | sendNack => exact .requestControl b .nack
  | ackReceived => exact runAckReceived_moves c b
  | nackReceived => exact retryStep_moves c b
  | ackTimeout => exact retryStep_moves c b
  | beginPass => exact runBeginPass_moves c b
  | beginFileTransfer => exact runBeginFileTransfer_moves c b
  | ceaseTransmission => exact runCeaseTransmission_moves c b
  | resumeTransmission => exact endSuspension_moves c b
  | suspendElapsed => exact endSuspension_moves c b
  | passElapsed => exact runPassElapsed_moves c b
  | resetSat => exact .halt b
  | readStatus => exact .keep b

end

/-! ### Every step but a block reset is a move -/

/-- Whatever next state the outcome is, its block is one move away from `b`. -/
def OutcomeMoves (b : Block) (o : Host.Outcome State Fault Refusal) : Prop :=
  ∀ t : State, o = .next t → BlockMove Config.chosen b t.block

theorem outcomeMoves_next {b : Block} {u : State} (h : BlockMove Config.chosen b u.block) :
    OutcomeMoves b (.next u) := by
  rintro t ⟨⟩
  exact h

theorem exec_moves (i : Instr) (s : State) : OutcomeMoves s.block (exec i s) := by
  rw [exec_eq_complete]
  exact outcomeMoves_next (commandResult_moves Config.chosen i s.port s.block)

/-- What the host does after a command does not reach the block. -/
theorem thenNext_moves {b : Block} {o : Host.Outcome State Fault Refusal} {f : State → State}
    (h : OutcomeMoves b o) (hf : ∀ t, (f t).block = t.block) : OutcomeMoves b (thenNext o f) := by
  cases o with
  | next u =>
    rw [thenNext_next]
    refine outcomeMoves_next ?_
    rw [hf u]
    exact h u rfl
  | fault r =>
    rintro t ⟨⟩
  | refused r =>
    rintro t ⟨⟩

theorem issue_moves (r : Request) (s : State) : OutcomeMoves s.block (issue exec r s) := by
  cases hd : decode r.word with
  | ok i => rw [issue_legal hd]; exact exec_moves i (s.latch r)
  | error e => rw [issue_illegal hd]; exact outcomeMoves_next (.keep _)

theorem issueFor_moves (a : Agent) (r : Request) (s : State) : OutcomeMoves s.block (issueFor exec a r s) :=
  thenNext_moves (issue_moves r s) (deliver_block a)

/-- One command of RX, then bookkeeping of the host. -/
theorem issueThen_moves (i : Instr) (s : State) {f : State → State} (hf : ∀ t, (f t).block = t.block) :
    OutcomeMoves s.block (thenNext (issueFor exec .rx (bareRequest i) s) f) :=
  thenNext_moves (issueFor_moves .rx (bareRequest i) s) hf

theorem rejectUplink_moves (st : Status) (s : State) : OutcomeMoves s.block (rejectUplink exec st s) :=
  issueThen_moves .sendNack s fun _ => rfl

theorem acceptUplink_moves (tag : U16) (v : Telecommand) (s : State) :
    OutcomeMoves s.block (acceptUplink exec tag v s) := by
  cases v with
  | ack code => exact issueThen_moves .ackReceived s fun _ => rfl
  | nack code => exact issueThen_moves .nackReceived s fun _ => rfl
  | beginPass len => exact issueThen_moves .beginPass s fun _ => rfl
  | beginFileTransfer => exact issueThen_moves .beginFileTransfer s fun _ => rfl
  | ceaseTransmission dur => exact issueThen_moves .ceaseTransmission s fun _ => rfl
  | resumeTransmission => exact issueThen_moves .resumeTransmission s fun _ => rfl
  | updateTime epoch => exact outcomeMoves_next (.keep _)
  | reset dev hard => exact issueThen_moves .resetSat s fun _ => rfl

theorem followUp_moves (h : HostServices) (r : Response) (s : State) :
    OutcomeMoves s.block (followUp exec h r s) := by
  unfold followUp
  split
  · exact rejectUplink_moves r.status s
  · split
    · exact rejectUplink_moves .decryptFailed s
    · next P _ =>
      split
      · exact rejectUplink_moves .unknownMessageTag s
      · next dec _ => exact acceptUplink_moves r.tag (dec P) s

theorem startUplink_moves (bytes : ByteString) (s : State) : OutcomeMoves s.block (startUplink exec bytes s) :=
  thenNext_moves (issueFor_moves .rx _ s) fun _ => rfl

theorem rxTurn_moves (h : HostServices) (s : State) : OutcomeMoves s.block (rxTurn exec h s) := by
  unfold rxTurn
  split
  · next r _ => exact followUp_moves h r s
  · split
    · exact outcomeMoves_next (.keep _)
    · next bytes rest _ => exact startUplink_moves bytes { s with host := { s.host with rxInbox := rest } }

/-- Everything a step can do to the block: a block reset sets it to its reset value, any other step is one move. -/
theorem step_block_cases {s t : State} (h : step s = .next t) :
    (∃ rest, s.host.schedule = .reset :: rest ∧ t.block = Block.reset) ∨
    BlockMove Config.chosen s.block t.block := by
  cases hs : s.host.schedule with
  | nil =>
    rw [step_idle hs] at h
    exact .inr (outcomeMoves_next (.keep _) t h)
  | cons ev rest =>
    have hrun : runEvent exec HostServices.chosen ev (s.withSchedule rest) = .next t := by
      simpa [step, stepWith, hs] using h
    cases ev with
    | command a r => exact .inr (issueFor_moves a r (s.withSchedule rest) t hrun)
    | receive bytes =>
      cases hrun
      exact .inr (.keep _)
    | rxTurn => exact .inr (rxTurn_moves HostServices.chosen (s.withSchedule rest) t hrun)
    | reset =>
      cases hrun
      exact .inl ⟨rest, rfl, rfl⟩

/-- What holds of a state and is kept by every step of a machine holds of every state a run from it reaches. -/
theorem run_keeps {M : Host.Core} {P : M.State → Prop} (hstep : ∀ s t, P s → M.step s = .next t → P t) (k : Nat)
    {s t : M.State} (hs : P s) (hrun : M.run k s = .next t) : P t := by
  induction k generalizing s with
  | zero =>
    cases hrun
    exact hs
  | succ k ih =>
    unfold Host.Core.run at hrun
    split at hrun
    · next u hu => exact ih (hstep s u hs hu) hrun
    · cases hrun
    · cases hrun

end Sys2Proof.Machine
end

section
/-! The invariants INV1 to INV8 of 10_state.md R35 along every run from reset. -/

namespace Sys2Proof.Machine

/-! ### What a chunk does to the store and the cursor -/

/-- What the next chunk is cut from, under the invariants: the bytes of the message and of what remains of the queue
are the bytes in use, and the chunk begins at a multiple of MAX_FRAME_SIZE within the body (INV4, R134). -/
theorem chunkSource_of_inv {c : Config} {b : Block} (h : b.Inv c) {m : Message} {off : Nat} {rest : List Message}
    (hsrc : chunkSource b = some (m, off, rest)) :
    rest.length ≤ b.queue.length ∧ (rest.map fun x => x.body.length).sum + m.body.length = used b ∧
    off ≤ m.body.length ∧ off % c.maxFrameSize = 0 := by
  cases hv : b.curValid with
  | true =>
    obtain ⟨-, hlt, hmod⟩ := h.cursor hv
    rw [chunkSource_cursor hv] at hsrc
    cases hsrc
    exact ⟨le_rfl, by simp [used, hv], hlt.le, hmod⟩
  | false =>
    cases hq : b.queue with
    | nil => rw [(chunkSource_none_iff b).mpr ⟨hv, hq⟩] at hsrc; cases hsrc
    | cons x xs =>
      rw [chunkSource_head hv hq] at hsrc
      cases hsrc
      exact ⟨by simp, by simp [used, hv, hq, Nat.add_comm], Nat.zero_le _, Nat.zero_mod _⟩

theorem used_advanceCursor_le (b : Block) (m : Message) (stop : Nat) :
    used (b.advanceCursor m stop) ≤ (b.queue.map fun x => x.body.length).sum + m.body.length := by
  unfold Block.advanceCursor
  split <;> simp [used]

/-- The cursor is open after a chunk only inside the message. -/
theorem advanceCursor_open {b : Block} {m : Message} {stop : Nat} (h : (b.advanceCursor m stop).curValid = true) :
    stop ≠ m.body.length ∧ (b.advanceCursor m stop).curBody = m.body ∧ (b.advanceCursor m stop).curOff = stop := by
  unfold Block.advanceCursor at h ⊢
  split at h
  · cases h
  · next hstop => simp [hstop]

/-- INV4 after a chunk: one that does not reach the end of the body is a whole MAX_FRAME_SIZE (R134). -/
theorem advanceCursor_cursor_inv {c : Config} (b : Block) {m : Message} {off stop : Nat} (hoff : off ≤ m.body.length)
    (hmod : off % c.maxFrameSize = 0) (hstop : stop = off + min c.maxFrameSize (m.body.length - off))
    (hopen : (b.advanceCursor m stop).curValid = true) :
    0 < (b.advanceCursor m stop).curOff ∧
    (b.advanceCursor m stop).curOff < (b.advanceCursor m stop).curBody.length ∧
    (b.advanceCursor m stop).curOff % c.maxFrameSize = 0 := by
  obtain ⟨hne, hbody, hcur⟩ := advanceCursor_open hopen
  have hpos := c.maxFrameSize_pos
  have hwhole : stop = off + c.maxFrameSize := by omega
  rw [hbody, hcur]
  refine ⟨by omega, by omega, ?_⟩
  rw [hwhole, Nat.add_mod_right, hmod]

/-! ### ENGINE_NEXT -/

/-- ENGINE_NEXT writes the queue, the cursor and the retained frame alone (41_queue.md R134). -/
theorem engineNext_frame {c : Config} {b b' : Block} {F : ByteString} (h : engineNext c b = some (F, b')) :
    b'.state = b.state ∧ b'.prev = b.prev ∧ b'.halted = b.halted ∧ b'.retry = b.retry ∧
    b'.ctrlValid = b.ctrlValid ∧ b'.ctrlKind = b.ctrlKind ∧ b'.phase = b.phase ∧
    b'.retValid = true ∧ b'.retFrame = F := by
  obtain ⟨m, off, rest, -, -, rfl⟩ := engineNext_some h
  simp

theorem engineNext_keeps_inv {c : Config} {b b' : Block} {F : ByteString} (h : b.Inv c)
    (he : engineNext c b = some (F, b')) : b'.Inv c := by
  obtain ⟨hstate, -, -, hretry, -, -, hphase, hret, hframe⟩ := engineNext_frame he
  have hlen := engineNext_frame_length he
  obtain ⟨m, off, rest, hsrc, rfl, hb'⟩ := engineNext_some he
  obtain ⟨hrest, hused, hoff, hmod⟩ := chunkSource_of_inv h hsrc
  exact
    { queueDepth := by
        rw [hb']
        simpa using hrest.trans h.queueDepth
      store := by
        rw [hb']
        exact (used_advanceCursor_le _ m _).trans (hused.trans_le h.store)
      retry := hretry ▸ h.retry
      cursor := by
        rw [hb']
        exact advanceCursor_cursor_inv _ hoff hmod rfl
      retained := fun _ =>
        ⟨⟨m.tag, _, by simp [bytesFrom], hframe⟩, by simp [hframe], hframe ▸ hlen⟩
      phase := hphase ▸ h.phase
      inFlight := fun _ => hret
      idle := by rw [hstate, hphase, hretry]; exact h.idle }

/-! ### Every move keeps the invariants -/

theorem ne_idle_of_inContact {l : Lifecycle} (h : inContact l = true) : l ≠ .idle := by
  rintro rfl
  cases h

theorem addMessage_keeps_inv {c : Config} {b : Block} (h : b.Inv c) {m : Message}
    (hdepth : b.queue.length ≠ c.queueDepth) (hstore : used b + m.body.length ≤ c.msgStoreBytes) :
    ({ b with queue := b.queue ++ [m] } : Block).Inv c :=
  { h with
    queueDepth := by
      have := h.queueDepth
      simp only [List.length_append, List.length_singleton]
      omega
    store := by
      simp only [used, List.map_append, List.sum_append, List.map_cons, List.map_nil, List.sum_singleton] at hstore ⊢
      omega }

/-- Nothing in INV1 to INV7 reads S.state, so it may become any state but IDLE. -/
theorem setState_keeps_inv {c : Config} {b : Block} (h : b.Inv c) {l : Lifecycle} (hl : l ≠ .idle) :
    ({ b with state := l } : Block).Inv c :=
  { h with idle := fun hi => absurd hi hl }

/-- The counter at 0 and the phase at READY suit every lifecycle state. -/
theorem settle_keeps_inv {c : Config} {b : Block} (h : b.Inv c) (l : Lifecycle) :
    ({ b with state := l, retry := 0#8, phase := .ready } : Block).Inv c :=
  { h with
    retry := Nat.zero_le _
    phase := .inl rfl
    inFlight := fun hp => absurd rfl hp
    idle := fun _ => ⟨rfl, rfl⟩ }

/-- A POLL that has emitted a frame waits: the frame is retained and the transfer is active. -/
theorem await_keeps_inv {c : Config} {b : Block} (h : b.Inv c) (hs : b.state = .fileTransferActive)
    (hret : b.retValid = true) : ({ b with phase := .await } : Block).Inv c :=
  { h with
    phase := .inr (.inl rfl)
    inFlight := fun _ => hret
    idle := fun hi => by cases hs.symm.trans hi }

theorem retry_keeps_inv {c : Config} {b : Block} (h : b.Inv c) (hc : inContact b.state = true)
    (hn : b.retry.toNat + 1 ≤ c.retryMax) :
    ({ b with retry := BitVec.ofNat 8 (b.retry.toNat + 1),
              phase := if b.retValid then .resend else b.phase } : Block).Inv c :=
  { h with
    retry := by
      rw [BitVec.toNat_ofNat]
      exact (Nat.mod_le _ _).trans hn
    phase := by
      cases hv : b.retValid with
      | true => exact .inr (.inr rfl)
      | false => exact h.phase
    inFlight := by
      cases hv : b.retValid with
      | true => exact fun _ => rfl
      | false => exact fun hp => hv.symm.trans (h.inFlight hp)
    idle := fun hi => absurd hi (ne_idle_of_inContact hc) }

theorem exhausted_inv {c : Config} {b : Block} (h : b.Inv c) : (exhausted b).Inv c where
  queueDepth := h.queueDepth
  store := (Nat.le_add_right _ _).trans h.store
  retry := Nat.zero_le _
  cursor := nofun
  retained := nofun
  phase := .inl rfl
  inFlight := fun hp => absurd rfl hp
  idle := fun _ => ⟨rfl, rfl⟩

theorem BlockMove.keeps_inv {c : Config} {b b' : Block} (hm : BlockMove c b b') (h : b.Inv c) : b'.Inv c := by
  cases hm with
  | keep => exact h
  | addMessage m hdepth hstore => exact addMessage_keeps_inv h hdepth hstore
  | nextFrame _ F he => exact engineNext_keeps_inv h he
  | pollControl => exact { h with }
  | pollNew b₁ F hs _ he =>
    obtain ⟨hstate, -, -, -, -, -, -, hret, -⟩ := engineNext_frame he
    exact await_keeps_inv (engineNext_keeps_inv h he) (hstate.trans hs) hret
  | pollResend hs hp => exact await_keeps_inv h hs (h.inFlight (by simp [hp]))
  | requestControl k => exact { h with }
  | acknowledge hc => exact settle_keeps_inv h b.state
  | retry hc hn => exact retry_keeps_inv h hc hn
  | exhaust hc hn => exact exhausted_inv h
  | beginPass hs => exact setState_keeps_inv h (by decide)
  | beginFileTransfer hs =>
    exact { setState_keeps_inv h (l := .fileTransferActive) (by decide) with
            retry := Nat.zero_le _, idle := nofun }
  | cease p hs => exact { setState_keeps_inv h (l := .suspended) (by decide) with }
  | resume hs => exact setState_keeps_inv h (by cases b.prev <;> decide)
  | passElapsed hs => exact settle_keeps_inv h .idle
  | halt => exact { h with }

/-- The reset block meets the invariants under every configuration. -/
theorem reset_inv (c : Config) : Block.reset.Inv c where
  queueDepth := Nat.zero_le _
  store := Nat.zero_le _
  retry := Nat.zero_le _
  cursor := nofun
  retained := nofun
  phase := .inl rfl
  inFlight := fun hp => absurd rfl hp
  idle := fun _ => ⟨rfl, rfl⟩

theorem step_keeps_inv {s t : State} (hs : s.Inv) (h : step s = .next t) : t.Inv := by
  rcases step_block_cases h with ⟨-, -, hreset⟩ | hmove
  · rw [State.Inv, hreset]
    exact reset_inv Config.chosen
  · exact hmove.keeps_inv hs

/-- Settles O8: reset meets the invariants and every step keeps them. -/
theorem reachableStatesMeetInvariants : Obligations.ReachableStatesMeetInvariants :=
  fun evs k _ hrun =>
    run_keeps (M := Sys2Proof.core) (P := State.Inv) (fun _ _ => step_keeps_inv) k
      (s := State.reset.withSchedule evs) (reset_inv Config.chosen) hrun

end Sys2Proof.Machine
end

section
/-! S.halted (10_state.md R25): set by RESET_SAT, cleared by block reset alone, and silencing POLL. -/

namespace Sys2Proof.Machine

/-- No command clears S.halted (10_state.md R25). -/
theorem BlockMove.keeps_halted {c : Config} {b b' : Block} (hm : BlockMove c b b') (h : b.halted = true) :
    b'.halted = true := by
  cases hm with
  | halt => rfl
  | nextFrame _ F he =>
    obtain ⟨-, -, hhalted, -⟩ := engineNext_frame he
    exact hhalted.trans h
  | pollNew b₁ F _ _ he =>
    obtain ⟨-, -, hhalted, -⟩ := engineNext_frame he
    exact hhalted.trans h
  | _ => exact h

/-- Everything POLL can do while the block is halted: NULL_INPUT without a capacity, else EMPTY (42_arbiter.md R150). -/
theorem runPoll_halted (c : Config) (cap : Option Nat) {b : Block} (h : b.halted = true) :
    runPoll c cap b = (b, Response.of .nullInput) ∨ runPoll c cap b = (b, Response.of .empty) := by
  cases cap with
  | none => exact .inl rfl
  | some n =>
    refine .inr ?_
    rw [runPoll, needCap_some, if_pos h]
    rfl

theorem step_keeps_halted {s t : State} (hs : s.block.halted = true)
    (hev : ∀ rest, s.host.schedule ≠ .reset :: rest) (h : step s = .next t) : t.block.halted = true := by
  rcases step_block_cases h with ⟨rest, hreset, -⟩ | hmove
  · exact absurd hreset (hev rest)
  · exact hmove.keeps_halted hs

theorem resetSat_halts {s t : State} (h : exec .resetSat s = .next t) : t.block.halted = true := by
  rw [exec_eq_complete] at h
  cases h
  rfl

theorem poll_silent_of_halted {s t : State} (hs : s.block.halted = true) (h : exec .poll s = .next t) :
    t.port.response.status ≠ .ok ∧ t.port.response.out = [] ∧ t.block = s.block := by
  rw [exec_eq_complete] at h
  cases h
  rcases runPoll_halted Config.chosen s.port.cap hs with hp | hp <;> simp [commandResult, hp]

/-- Settles O54: the moves of the block keep S.halted, and a halted POLL fails or answers EMPTY. -/
theorem haltedUntilReset : Obligations.HaltedUntilReset :=
  ⟨rfl, fun _ _ => resetSat_halts, fun _ _ => step_keeps_halted, fun _ _ => poll_silent_of_halted⟩

end Sys2Proof.Machine
end

section
/-! The command word's fields and the decoder (30_encoding.md R74, R78, R79): the field of each check is the arithmetic
`CommandWord` does on the word's value, and what the decoder answers follows from R79's three checks in their order. -/

namespace Sys2Proof

/-! ### The fields of a command word (R74) -/

@[simp] theorem opcField_toNat (w : U32) : (opcField w).toNat = w.toNat / 2 ^ 24 := by
  have hw := w.isLt
  rw [opcField, BitVec.extractLsb'_toNat, Nat.shiftRight_eq_div_pow]
  omega

@[simp] theorem rsvField_toNat (w : U32) : (rsvField w).toNat = w.toNat / 2 ^ 16 % 2 ^ 8 := by
  rw [rsvField, BitVec.extractLsb'_toNat, Nat.shiftRight_eq_div_pow]

@[simp] theorem immField_toNat (w : U32) : (immField w).toNat = w.toNat % 2 ^ 16 := by
  rw [immField, BitVec.extractLsb'_toNat, Nat.shiftRight_zero]

/-! ### The opcode map (R78) -/

/-- R78's map has a row for each opcode of R79's list. -/
theorem commandOf_ofNat_ne_none (imm : U16) :
    ∀ n ∈ CommandWord.opcodes, commandOf (BitVec.ofNat 8 n) imm ≠ none := by
  simp [CommandWord.opcodes, commandOf]

theorem Instr.opcode_mem_opcodes (i : Instr) : i.opcode.toNat ∈ CommandWord.opcodes := by
  cases i <;> simp [Instr.opcode, CommandWord.opcodes]

/-- What the map answers carries the opcode it was looked up by, and the immediate where it takes a tag. -/
theorem commandOf_some {opc : BitVec 8} {imm : U16} {i : Instr} (h : commandOf opc imm = some i) :
    i.opcode = opc ∧ (i.takesTag = true → i.immediate = imm) := by
  unfold commandOf at h
  split at h <;> cases h <;> exact ⟨rfl, by simp [Instr.takesTag, Instr.immediate]⟩

theorem commandOf_isSome_iff (opc : BitVec 8) (imm : U16) :
    (commandOf opc imm).isSome = true ↔ opc.toNat ∈ CommandWord.opcodes := by
  constructor
  · intro h
    obtain ⟨i, hi⟩ := Option.isSome_iff_exists.mp h
    obtain ⟨rfl, -⟩ := commandOf_some hi
    exact i.opcode_mem_opcodes
  · intro h
    have hne := commandOf_ofNat_ne_none imm _ h
    rw [BitVec.ofNat_toNat, BitVec.setWidth_eq] at hne
    exact Option.isSome_iff_ne_none.mpr hne

/-- The commands that take the immediate, by opcode (R77). -/
theorem Instr.takesTag_eq (i : Instr) : i.takesTag = [0x02, 0x10].contains i.opcode.toNat := by
  cases i <;> rfl

/-! ### R79's checks, from arithmetic to fields -/

theorem opcodeKnown_eq (w : U32) :
    CommandWord.opcodeKnown w = (commandOf (opcField w) (immField w)).isSome := by
  rw [Bool.eq_iff_iff, commandOf_isSome_iff, opcField_toNat, CommandWord.opcodeKnown, List.contains_iff_mem]

theorem reservedZero_iff (w : U32) : CommandWord.reservedZero w = true ↔ rsvField w = 0#8 := by
  rw [CommandWord.reservedZero, beq_iff_eq, ← rsvField_toNat, BitVec.toNat_eq, BitVec.toNat_zero]

theorem immediateLegal_iff {w : U32} {i : Instr} (h : i.opcode = opcField w) :
    CommandWord.immediateLegal w = true ↔ i.takesTag = true ∨ immField w = 0#16 := by
  rw [CommandWord.immediateLegal, Bool.or_eq_true, beq_iff_eq, ← opcField_toNat, ← h, ← i.takesTag_eq,
    ← immField_toNat, BitVec.toNat_eq (y := 0#16), BitVec.toNat_zero]

/-! ### The decoder (R79) -/

theorem decode_of_opcode_unknown {w : U32} (h : CommandWord.opcodeKnown w = false) :
    decode w = .error .unknownOpcode := by
  rw [opcodeKnown_eq, Option.isSome_eq_false_iff, Option.isNone_iff_eq_none] at h
  rw [decode, h]

/-- Past check 1 there is a command, and checks 2 and 3 decide whether the decoder answers it. -/
theorem decode_of_opcode_known {w : U32} (h : CommandWord.opcodeKnown w = true) :
    ∃ i, commandOf (opcField w) (immField w) = some i ∧
      decode w =
        if CommandWord.reservedZero w = false then .error .reservedNonzero
        else if CommandWord.immediateLegal w = false then .error .immediateNonzero
        else .ok i := by
  rw [opcodeKnown_eq] at h
  obtain ⟨i, hi⟩ := Option.isSome_iff_exists.mp h
  refine ⟨i, hi, ?_⟩
  obtain ⟨hopc, -⟩ := commandOf_some hi
  simp only [decode, hi, ← Bool.not_eq_true, immediateLegal_iff hopc, reservedZero_iff, not_or, ne_eq]

theorem decode_unknownOpcode_iff (w : U32) :
    decode w = .error .unknownOpcode ↔ CommandWord.opcodeKnown w = false := by
  cases hk : CommandWord.opcodeKnown w with
  | false => simp [decode_of_opcode_unknown hk]
  | true =>
    obtain ⟨i, -, hd⟩ := decode_of_opcode_known hk
    rw [hd]
    split_ifs <;> simp

theorem decode_reservedNonzero_iff (w : U32) :
    decode w = .error .reservedNonzero ↔
      CommandWord.opcodeKnown w = true ∧ CommandWord.reservedZero w = false := by
  cases hk : CommandWord.opcodeKnown w with
  | false => simp [decode_of_opcode_unknown hk]
  | true =>
    obtain ⟨i, -, hd⟩ := decode_of_opcode_known hk
    rw [hd]
    split_ifs with hr <;> simp [hr]

theorem decode_immediateNonzero_iff (w : U32) :
    decode w = .error .immediateNonzero ↔
      CommandWord.opcodeKnown w = true ∧ CommandWord.reservedZero w = true ∧
        CommandWord.immediateLegal w = false := by
  cases hk : CommandWord.opcodeKnown w with
  | false => simp [decode_of_opcode_unknown hk]
  | true =>
    obtain ⟨i, -, hd⟩ := decode_of_opcode_known hk
    rw [hd]
    split_ifs with hr hm
    · simp [hr]
    · simp [hr, hm]
    · simp [hr, hm]

/-- The decoder answers a command exactly for a legal word, and then the one its opcode selects. -/
theorem decode_ok_iff (w : U32) (i : Instr) :
    decode w = .ok i ↔ CommandWord.legal w = true ∧ commandOf (opcField w) (immField w) = some i := by
  rw [CommandWord.legal]
  cases hk : CommandWord.opcodeKnown w with
  | false => simp [decode_of_opcode_unknown hk]
  | true =>
    obtain ⟨j, hj, hd⟩ := decode_of_opcode_known hk
    rw [hd, hj]
    split_ifs with hr hm
    · simp [hr]
    · simp [hr, hm]
    · simp [hr, hm]

theorem exists_decode_ok_iff (w : U32) : (∃ i, decode w = .ok i) ↔ CommandWord.legal w = true := by
  simp only [decode_ok_iff]
  refine ⟨fun ⟨_, hlegal, _⟩ => hlegal, fun hlegal => ?_⟩
  have hknown : CommandWord.opcodeKnown w = true := by
    simp only [CommandWord.legal, Bool.and_eq_true] at hlegal
    obtain ⟨⟨hopc, -⟩, -⟩ := hlegal
    exact hopc
  obtain ⟨i, hi, -⟩ := decode_of_opcode_known hknown
  exact ⟨i, hlegal, hi⟩

/-- Dispatch reads OPC and, for a command with a tag, IMM (R74, R80). -/
theorem decode_ok_fields {w : U32} {i : Instr} (h : decode w = .ok i) :
    i.opcode.toNat = w.toNat / 2 ^ 24 ∧ (i.takesTag = true → i.immediate.toNat = w.toNat % 2 ^ 16) := by
  obtain ⟨-, hi⟩ := (decode_ok_iff w i).mp h
  obtain ⟨hopc, himm⟩ := commandOf_some hi
  exact ⟨by rw [hopc, opcField_toNat], fun htag => by rw [himm htag, immField_toNat]⟩

/-! ### The step on an illegal word -/

namespace Machine

theorem step_illegal {s : State} {a : Agent} {r : Request} {rest : List HostEvent} {e : DecodeError}
    (hs : s.host.schedule = .command a r :: rest) (hd : decode r.word = .error e) :
    step s = .next (deliver a (((s.withSchedule rest).latch r).after s.block (Response.of .illegalCommand))) := by
  rw [step_command hs, issueFor, issue_illegal hd, thenNext_next, State.withSchedule_block]

end Machine

/-- Settles O2: each answer of the decoder read off R79's checks, the fields it dispatches on, and the step on an
illegal word. -/
theorem decoderRejectsExactlyIllegalWords : Obligations.DecoderRejectsExactlyIllegalWords :=
  ⟨fun w => ⟨decode_unknownOpcode_iff w, decode_reservedNonzero_iff w, decode_immediateNonzero_iff w,
      exists_decode_ok_iff w⟩,
    fun _ _ => decode_ok_fields,
    (decode_unknownOpcode_iff _).mpr (by decide),
    fun _ _ _ _ _ => Machine.step_illegal⟩

end Sys2Proof
end

section
/-! The encoder against the decoder (30_encoding.md R78, R79, R82): the fields of an assembled word are the command's, a
word is the concatenation of its fields, and so a word decodes to a command exactly if it is that command's word. -/

namespace Sys2Proof

/-! ### The fields of an assembled word (R74, R82) -/

@[simp] theorem opcField_encode (i : Instr) : opcField (encode i) = i.opcode := by
  rw [opcField, encode, BitVec.extractLsb'_append_eq_of_le (by decide), BitVec.extractLsb'_append_eq_left]

@[simp] theorem rsvField_encode (i : Instr) : rsvField (encode i) = 0#8 := by
  rw [rsvField, encode, BitVec.extractLsb'_append_eq_of_le (by decide), BitVec.extractLsb'_append_eq_right]

@[simp] theorem immField_encode (i : Instr) : immField (encode i) = i.immediate :=
  BitVec.extractLsb'_append_eq_right

/-- A command word is its three fields in order (R74). -/
theorem opcField_append_rsvField_append_immField (w : U32) : opcField w ++ rsvField w ++ immField w = w := by
  have hupper : opcField w ++ rsvField w = w.extractLsb' 16 16 :=
    BitVec.extractLsb'_append_extractLsb'_eq_extractLsb' rfl
  rw [hupper]
  exact (BitVec.extractLsb'_append_extractLsb'_eq_extractLsb' (start₁ := 0) rfl).trans BitVec.extractLsb'_eq_self

/-- A word is a command's word exactly if its fields are the command's. -/
theorem eq_encode_iff (w : U32) (i : Instr) :
    w = encode i ↔ opcField w = i.opcode ∧ rsvField w = 0#8 ∧ immField w = i.immediate := by
  constructor
  · rintro rfl
    exact ⟨opcField_encode i, rsvField_encode i, immField_encode i⟩
  · rintro ⟨hopc, hrsv, himm⟩
    rw [← opcField_append_rsvField_append_immField w, hopc, hrsv, himm, encode]

/-! ### The opcode map and the encoder -/

theorem commandOf_opcode_immediate (i : Instr) : commandOf i.opcode i.immediate = some i := by
  cases i <;> rfl

theorem Instr.immediate_of_no_tag {i : Instr} (h : i.takesTag = false) : i.immediate = 0#16 := by
  cases i with
  | generate _ | addMessage _ => cases h
  | _ => rfl

/-- The opcode alone selects a command that takes no tag. -/
theorem commandOf_opcode_of_no_tag {i : Instr} (h : i.takesTag = false) (imm : U16) :
    commandOf i.opcode imm = some i := by
  cases i with
  | generate _ | addMessage _ => cases h
  | _ => rfl

theorem decode_encode (i : Instr) : decode (encode i) = .ok i := by
  have hmap : commandOf (opcField (encode i)) (immField (encode i)) = some i := by
    rw [opcField_encode, immField_encode, commandOf_opcode_immediate]
  rw [decode, hmap]
  simpa using i.immediate_of_no_tag

/-- A word that decodes to a command has passed R79's checks, which leave no field free. -/
theorem eq_encode_of_decode {w : U32} {i : Instr} (h : decode w = .ok i) : w = encode i := by
  obtain ⟨hlegal, hmap⟩ := (decode_ok_iff w i).mp h
  obtain ⟨hopc, htag⟩ := commandOf_some hmap
  simp only [CommandWord.legal, Bool.and_eq_true] at hlegal
  obtain ⟨⟨-, hrsv⟩, himm⟩ := hlegal
  refine (eq_encode_iff w i).mpr ⟨hopc.symm, (reservedZero_iff w).mp hrsv, ?_⟩
  rcases hb : i.takesTag with _ | _
  · have himm0 : immField w = 0#16 := ((immediateLegal_iff hopc).mp himm).resolve_left (by simp [hb])
    rw [himm0, i.immediate_of_no_tag hb]
  · exact (htag hb).symm

theorem decode_ok_iff_eq_encode (w : U32) (i : Instr) : decode w = .ok i ↔ w = encode i :=
  ⟨eq_encode_of_decode, fun h => h ▸ decode_encode i⟩

/-! ### The encoding of one command (R78, R80) -/

namespace Machine

theorem illegalWord_of_error {w : U32} {e : DecodeError} (h : decode w = .error e) : IllegalWord w :=
  ⟨⟨e, h⟩, fun _ _ _ _ => step_illegal rfl h⟩

/-- A word that decodes to no command is illegal. -/
theorem illegalWord_of_ne_ok {w : U32} (h : ∀ i, decode w ≠ .ok i) : IllegalWord w := by
  rcases hd : decode w with e | i
  · exact illegalWord_of_error hd
  · exact absurd hd (h i)

/-- A command without a tag has one word: OPC selects it, and RSV and IMM must be 0. -/
theorem encodedOnlyBy_encode {i : Instr} (htag : i.takesTag = false) : EncodedOnlyBy i (encode i) := by
  refine ⟨fun w => decode_ok_iff_eq_encode w i, fun w hopc hne => illegalWord_of_ne_ok fun j hj => ?_⟩
  obtain ⟨-, hmap⟩ := (decode_ok_iff w j).mp hj
  rw [hopc, opcField_encode, commandOf_opcode_of_no_tag htag, Option.some.injEq] at hmap
  exact hne (hmap ▸ eq_encode_of_decode hj)

/-- The tag stands in the low half of a word whose low half is otherwise 0. -/
theorem append_zero_or_setWidth (u tag : U16) : (u ++ 0#16 : U32) ||| tag.setWidth 32 = u ++ tag := by
  have hhalves : (u ++ 0#16) ||| (0#16 ++ tag) = u ++ tag := by
    rw [BitVec.or_append, BitVec.or_zero, BitVec.zero_or]
  rw [BitVec.setWidth_eq_append (by decide)]
  exact hhalves

/-- A command with a tag has one word for each tag, and a word with a nonzero RSV is no command's word. -/
theorem encodedWithTag_of_opcode {f : U16 → Instr} {opc : BitVec 8}
    (hf : ∀ tag, encode (f tag) = opc ++ 0#8 ++ tag) : EncodedWithTag f (opc ++ 0#8 ++ 0#16) := by
  refine ⟨fun w tag => ?_, fun w _ hrsv => illegalWord_of_ne_ok fun j hj => hrsv ?_⟩
  · rw [append_zero_or_setWidth, decode_ok_iff_eq_encode, hf]
  · rw [eq_encode_of_decode hj, rsvField_encode]

end Machine

end Sys2Proof
end

section
/-! What reads back from a byte string and from a frame (00_scope.md R9, R11, 30_encoding.md R72). -/

namespace Sys2Proof.Machine

/-! ### Reads past the first part of a byte string -/

theorem byteAt_append_right (A B : ByteString) (o : Nat) : byteAt (A ++ B) (A.length + o) = byteAt B o := by
  rw [byteAt, List.getD_append_right _ _ _ _ (Nat.le_add_right _ _), Nat.add_sub_cancel_left, byteAt]

theorem rdLe16_append_right (A B : ByteString) (o : Nat) : rdLe16 (A ++ B) (A.length + o) = rdLe16 B o := by
  simp only [rdLe16, Nat.add_assoc, byteAt_append_right]

theorem rdLe32_append_right (A B : ByteString) (o : Nat) : rdLe32 (A ++ B) (A.length + o) = rdLe32 B o := by
  simp only [rdLe32, Nat.add_assoc, byteAt_append_right]

/-- `rd_le16` reads back what `le16` wrote (R9). -/
theorem rdLe16_le16 (v : U16) (x : ByteString) : rdLe16 (le16 v ++ x) 0 = v := by
  have hjoin : (v.extractLsb' 0 8).setWidth 16 ||| (v.extractLsb' 8 8).setWidth 16 <<< 8 = v := by
    ext k hk
    by_cases hlow : k < 8
    · simp [hlow, BitVec.getLsbD_eq_getElem hk]
    · simp [hlow, show k - 8 < 8 by omega, show 8 + (k - 8) = k by omega, BitVec.getLsbD_eq_getElem hk]
  exact hjoin

/-! ### The fields of a frame (R72) -/

section
variable (c : Config) (tag : U16) (B : ByteString)

/-- WRAP in the order in which a reader takes it apart. -/
theorem wrap_eq_header_append :
    wrap c tag B = le32 c.preamble ++ (le32 (crc32 B) ++ (le16 (c.topicOf tag) ++ (le16 tag ++ B))) := by
  simp only [wrap, List.append_assoc]

@[simp] theorem rdLe32_wrap_preamble : rdLe32 (wrap c tag B) 0 = c.preamble := by
  rw [wrap_eq_header_append, rdLe32_le32]

@[simp] theorem rdLe32_wrap_checksum : rdLe32 (wrap c tag B) 4 = crc32 B := by
  rw [wrap_eq_header_append]
  exact (rdLe32_append_right (le32 c.preamble) _ 0).trans (rdLe32_le32 _ _)

@[simp] theorem rdLe16_wrap_topic : rdLe16 (wrap c tag B) 8 = c.topicOf tag := by
  rw [wrap_eq_header_append, ← List.append_assoc (le32 c.preamble)]
  exact (rdLe16_append_right (le32 c.preamble ++ le32 (crc32 B)) _ 0).trans (rdLe16_le16 _ _)

@[simp] theorem rdLe16_wrap_tag : rdLe16 (wrap c tag B) 10 = tag := by
  rw [wrap_eq_header_append, ← List.append_assoc (le32 c.preamble), ← List.append_assoc (le32 c.preamble ++ _)]
  exact (rdLe16_append_right (le32 c.preamble ++ le32 (crc32 B) ++ le16 (c.topicOf tag)) _ 0).trans (rdLe16_le16 _ _)

@[simp] theorem payloadOf_wrap : payloadOf (wrap c tag B) = B := rfl

end

/-- The slice that PARSE takes as the payload is what follows the header (40_codec.md R110). -/
theorem bytesFrom_headerSize (F : ByteString) : bytesFrom F headerSize (F.length - headerSize) = payloadOf F :=
  List.take_of_length_le (List.length_drop ..).le

end Sys2Proof.Machine
end

section
/-! The Frame Codec (40_codec.md): each command's answer as one rule per check in R213's order, of every configuration;
the round trip of GENERATE and PARSE (R113); and the statements about CRC32, GENERATE and PARSE. -/

namespace Sys2Proof.Machine

/-! ### From a command's result to the step -/

theorem execUnder_of_result {c : Config} {i : Instr} {s : State} {b : Block} {r : Response}
    (h : commandResult c i s.port s.block = (b, r)) : execUnder c i s = .next (s.after b r) := by
  have hrun : execUnder c i s = .next (s.complete (commandResult c i s.port s.block)) := by cases i <;> rfl
  rw [hrun, h, State.complete_eq_after]

theorem exec_of_result {i : Instr} {s : State} {b : Block} {r : Response}
    (h : commandResult Config.chosen i s.port s.block = (b, r)) : exec i s = .next (s.after b r) :=
  (exec_eq_execUnder i s).trans (execUnder_of_result h)

/-! ### CRC32 (R103) -/

theorem runCrc32_null (b : Block) : runCrc32 none b = (b, Response.of .nullInput) := needData_none ..

theorem runCrc32_data (B : ByteString) (b : Block) :
    runCrc32 (some B) b = (b, { Response.of .ok with value := crc32 B }) := needData_some ..

/-- R101's check value. -/
theorem crc32_check_value :
    crc32 [0x31#8, 0x32#8, 0x33#8, 0x34#8, 0x35#8, 0x36#8, 0x37#8, 0x38#8, 0x39#8] = 0xCBF43926#32 := by
  decide +kernel

/-- Settles O17: the encoding of a command without a tag, the two answers of CRC32, and the check values. -/
theorem crc32Command : Obligations.Crc32Command := by
  refine ⟨encodedOnlyBy_encode (i := .crc32) rfl, fun s hdata => exec_of_result ?_,
    fun s B hdata => exec_of_result ?_, rfl, crc32_check_value⟩
  · rw [commandResult, hdata, runCrc32_null]
  · rw [commandResult, hdata, runCrc32_data]

/-! ### GENERATE (R105) -/

section
variable (c : Config) (tag : U16) (b : Block)

theorem runGenerate_null {data : Option ByteString} {cap : Option Nat} (h : data = none ∨ cap = none) :
    runGenerate c tag data cap b = (b, Response.of .nullInput) := by
  rcases h with rfl | rfl
  · rfl
  · cases data <;> rfl

variable {B : ByteString} {n : Nat}

theorem runGenerate_of_body_too_long (h : c.maxFrameSize < B.length) :
    runGenerate c tag (some B) (some n) b = (b, Response.of .encodeError) := by
  rw [runGenerate, needData_some, needCap_some, if_pos h, fail]

theorem runGenerate_of_cap_too_small (hB : B.length ≤ c.maxFrameSize) (hn : n < headerSize + B.length) :
    runGenerate c tag (some B) (some n) b = (b, Response.of .encodeError) := by
  rw [runGenerate, needData_some, needCap_some, if_neg (by omega), if_pos (by rwa [wrap_length]), fail]

theorem runGenerate_of_fits (hB : B.length ≤ c.maxFrameSize) (hn : headerSize + B.length ≤ n) :
    runGenerate c tag (some B) (some n) b = (b, frameResponse (wrap c tag B)) := by
  rw [runGenerate, needData_some, needCap_some, if_neg (by omega), if_neg (by rw [wrap_length]; omega)]
  rfl

end

/-- F_HELLO of 95_test_vectors.md is a frame of E0. -/
theorem wrap_e0_hello : wrap Config.e0 0x0301#16 [0x48#8, 0x45#8, 0x4C#8, 0x4C#8, 0x4F#8] =
    [0x31#8, 0x4B#8, 0x53#8, 0x52#8, 0x36#8, 0x64#8, 0x44#8, 0xC1#8, 0x03#8, 0x00#8, 0x01#8, 0x03#8,
      0x48#8, 0x45#8, 0x4C#8, 0x4C#8, 0x4F#8] := by
  decide +kernel

/-- Settles O18: the encoding of a command with a tag, one rule of GENERATE for each clause, and F_HELLO. -/
theorem generateCommand : Obligations.GenerateCommand := by
  refine ⟨encodedWithTag_of_opcode (opc := 0x02#8) fun _ => rfl, fun s tag hnull => exec_of_result ?_,
    fun s tag B n hdata hcap => ⟨fun hlong => exec_of_result ?_, fun hB hn => exec_of_result ?_,
      fun hB hn => exec_of_result ?_⟩,
    fun s hdata hcap => execUnder_of_result ?_⟩
  · exact runGenerate_null _ tag _ hnull
  · rw [commandResult, hdata, hcap, runGenerate_of_body_too_long _ tag _ hlong]
  · rw [commandResult, hdata, hcap, runGenerate_of_cap_too_small _ tag _ hB hn]
  · rw [commandResult, hdata, hcap, runGenerate_of_fits _ tag _ hB hn, wrap]
  · rw [commandResult, hdata, hcap, runGenerate_of_fits _ _ _ (by decide) (by decide), wrap_e0_hello]

/-! ### PARSE (R110 to R112) -/

section
variable (c : Config) (b : Block)

theorem runParse_null : runParse c none b = (b, Response.of .nullInput) := needData_none ..

variable {F : ByteString}

theorem runParse_of_oversize (h : headerSize + c.maxFrameSize < F.length) :
    runParse c (some F) b = (b, Response.of .bufferTooSmall) := by
  rw [runParse, needData_some, if_pos h, fail]

theorem runParse_of_short (h : F.length < headerSize) :
    runParse c (some F) b = (b, Response.of .malformedHeader) := by
  rw [runParse, needData_some, if_neg (by omega), if_pos h, fail]

/-- Past the two length checks, the header and the payload decide. -/
theorem runParse_of_length (hmin : headerSize ≤ F.length) (hmax : F.length ≤ headerSize + c.maxFrameSize) :
    runParse c (some F) b =
      if rdLe32 F 0 ≠ c.preamble then (b, Response.of .malformedHeader)
      else if rdLe32 F 4 ≠ crc32 (payloadOf F) then (b, Response.of .checksumMismatch)
      else (b, { status := .ok, out := payloadOf F, topic := rdLe16 F 8, tag := rdLe16 F 10, value := 0#32 }) := by
  rw [runParse, needData_some, if_neg (by omega), if_neg (by omega), bytesFrom_headerSize]
  rfl

/-- The round trip of the codec, under every configuration (R113): each field of a frame reads back, and the checksum
read back is the one of the payload. -/
theorem runParse_wrap {B : ByteString} (tag : U16) (hB : B.length ≤ c.maxFrameSize) :
    runParse c (some (wrap c tag B)) b =
      (b, { status := .ok, out := B, topic := c.topicOf tag, tag := tag, value := 0#32 }) := by
  rw [runParse_of_length c b (by simp) (by simpa using hB)]
  simp

end

/-- Settles O19: the encoding of a command without a tag, one rule of PARSE for each clause, and F_HELLO taken apart by
the round trip. -/
theorem parseCommand : Obligations.ParseCommand := by
  refine ⟨encodedOnlyBy_encode (i := .parse) rfl, fun s hdata => exec_of_result ?_,
    fun s F hdata => ⟨fun hlong => exec_of_result ?_, fun hshort => exec_of_result ?_,
      fun hmin hmax => ⟨fun hpre => exec_of_result ?_, fun hpre hcrc => exec_of_result ?_,
        fun hpre hcrc => exec_of_result ?_⟩⟩,
    fun s hdata => execUnder_of_result ?_⟩
  · rw [commandResult, hdata, runParse_null]
  · rw [commandResult, hdata, runParse_of_oversize _ _ hlong]
  · rw [commandResult, hdata, runParse_of_short _ _ hshort]
  · rw [commandResult, hdata, runParse_of_length _ _ hmin hmax, if_pos hpre]
  · rw [commandResult, hdata, runParse_of_length _ _ hmin hmax, if_neg (not_not.mpr hpre), if_pos hcrc]
  · rw [commandResult, hdata, runParse_of_length _ _ hmin hmax, if_neg (not_not.mpr hpre), if_neg (not_not.mpr hcrc)]
  · rw [commandResult, hdata, ← wrap_e0_hello, runParse_wrap _ _ _ (by decide)]
    rfl

/-- Settles O21: the round trip at the chosen configuration. -/
theorem parseInvertsGenerate : Obligations.ParseInvertsGenerate := by
  intro s tag B hB hdata
  refine exec_of_result ?_
  rw [commandResult, hdata, runParse_wrap _ _ tag hB]

end Sys2Proof.Machine
end

section
/-! The File Transfer Engine (41_queue.md): ENGINE_NEXT by what it cuts its chunk from and where the chunk ends (R134),
each command's answers as one rule per branch of its pseudocode, of every configuration, and the statements about
ADD_MESSAGE, ENGINE_NEXT, NEXT_FRAME and CURRENT_FRAME. -/

namespace Sys2Proof.Machine

/-! ### ADD_MESSAGE (R130, R131) -/

section
variable (c : Config) (tag : U16) (b : Block)

theorem runAddMessage_null : runAddMessage c tag none b = (b, Response.of .nullInput) := needData_none ..

variable {B : ByteString}

/-- Either limit refuses the message (R131). -/
theorem runAddMessage_of_full (h : b.queue.length = c.queueDepth ∨ c.msgStoreBytes < used b + B.length) :
    runAddMessage c tag (some B) b = (b, Response.of .queueFull) := by
  rw [runAddMessage, needData_some]
  by_cases hdepth : b.queue.length = c.queueDepth
  · rw [if_pos hdepth, fail]
  · rw [if_neg hdepth, if_pos (h.resolve_left hdepth), fail]

theorem runAddMessage_of_room (hdepth : b.queue.length ≠ c.queueDepth)
    (hstore : used b + B.length ≤ c.msgStoreBytes) :
    runAddMessage c tag (some B) b = ({ b with queue := b.queue ++ [⟨tag, B⟩] }, Response.of .ok) := by
  rw [runAddMessage, needData_some, if_neg hdepth, if_neg (by omega), respond]

end

/-- Settles O23: the encoding of a command with a tag, one rule of ADD_MESSAGE for each clause, and the worked example,
whose 300 bytes fit E0's empty store. -/
theorem addMessageCommand : Obligations.AddMessageCommand := by
  refine ⟨encodedWithTag_of_opcode (opc := 0x10#8) fun _ => rfl, fun s tag hdata => exec_of_result ?_,
    fun s tag B hdata => ⟨fun hfull => exec_of_result ?_, fun hdepth hstore => exec_of_result ?_⟩,
    fun s B hs hB hdata => ?_⟩
  · rw [commandResult, hdata, runAddMessage_null]
  · rw [commandResult, hdata, runAddMessage_of_full _ _ _ hfull]
  · rw [commandResult, hdata, runAddMessage_of_room _ _ _ hdepth hstore]
  · have hqueue : s.block.queue = [] := congrArg Block.queue hs
    have hcursor : s.block.curValid = false := congrArg Block.curValid hs
    have hused : used s.block = 0 := by simp [used, hqueue, hcursor]
    have hstore : used s.block + B.length ≤ Config.e0.msgStoreBytes := by rw [hused, hB]; decide
    refine ⟨execUnder_of_result ?_, by simp [used, hcursor, hB]⟩
    rw [commandResult, hdata, runAddMessage_of_room _ _ _ (by rw [hqueue]; decide) hstore, hqueue, List.nil_append]

/-! ### ENGINE_NEXT (R134) -/

theorem Block.advanceCursor_of_end {m : Message} {stop : Nat} (h : stop = m.body.length) (b : Block) :
    b.advanceCursor m stop = b.dropCursor := if_pos h

theorem Block.advanceCursor_of_inside {m : Message} {stop : Nat} (h : stop ≠ m.body.length) (b : Block) :
    b.advanceCursor m stop = { b with curValid := true, curTag := m.tag, curBody := m.body, curOff := stop } := if_neg h

/-- What ENGINE_NEXT makes of the message and the offset it cuts from. -/
theorem engineNext_of_source (c : Config) {b : Block} {m : Message} {off : Nat} {rest : List Message}
    (h : chunkSource b = some (m, off, rest)) :
    engineNext c b =
      some (wrap c m.tag (bytesFrom m.body off (min c.maxFrameSize (m.body.length - off))),
        { ({ b with queue := rest } : Block).advanceCursor m (off + min c.maxFrameSize (m.body.length - off)) with
          retValid := true
          retFrame := wrap c m.tag (bytesFrom m.body off (min c.maxFrameSize (m.body.length - off))) }) := by
  simp only [engineNext, h]

/-- Settles O24: the source is the open cursor or the head, and the chunk ends at the message end or inside it. -/
theorem engineNextRule : Obligations.EngineNextRule := by
  intro c b
  refine ⟨fun hv hq => (engineNext_none_iff c b).mpr ⟨hv, hq⟩, ?_⟩
  rintro t B off k q hfrom rfl
  have hsource : chunkSource b = some (⟨t, B⟩, off, q) := by
    rcases hfrom with ⟨hv, rfl, rfl, rfl, rfl⟩ | ⟨hv, rfl, hq⟩
    · exact chunkSource_cursor hv
    · exact chunkSource_head hv hq
  rw [engineNext_of_source c hsource]
  refine ⟨fun hend => ?_, fun hinside => ?_⟩
  · rw [Block.advanceCursor_of_end hend]
    rfl
  · rw [Block.advanceCursor_of_inside hinside]
    rfl

/-! ### NEXT_FRAME (R133) -/

section
variable (c : Config) {b : Block}

theorem runNextFrame_null (b : Block) : runNextFrame c none b = (b, Response.of .nullInput) := needCap_none ..

theorem runNextFrame_of_none (n : Nat) (h : engineNext c b = none) :
    runNextFrame c (some n) b = (b, Response.of .empty) := by
  simp only [runNextFrame, needCap_some, h, respond]

variable {F : ByteString} {b' : Block} {n : Nat}

theorem runNextFrame_of_too_small (h : engineNext c b = some (F, b')) (hn : n < F.length) :
    runNextFrame c (some n) b = (b, Response.of .bufferTooSmall) := by
  simp only [runNextFrame, needCap_some, h, emit_of_too_small hn]

theorem runNextFrame_of_fits (h : engineNext c b = some (F, b')) (hn : F.length ≤ n) :
    runNextFrame c (some n) b = (b', frameResponse F) := by
  simp only [runNextFrame, needCap_some, h, emit_of_fits hn]

end

/-- The bytes of a counter: `n` of them from `start` on, as R133's worked example takes its body. -/
def counting (start n : Nat) : ByteString := (List.range' start n).map (BitVec.ofNat 8)

theorem map_range_eq_counting (n : Nat) : (List.range n).map (BitVec.ofNat 8) = counting 0 n := by
  rw [counting, List.range_eq_range']

theorem counting_length (start n : Nat) : (counting start n).length = n := by simp [counting]

theorem counting_append (start n k : Nat) : counting start n ++ counting (start + n) k = counting start (n + k) := by
  rw [counting, counting, ← List.map_append, List.range'_append_1, counting]

/-- The checksum register over the worked example's payload, a quarter at a time. -/
theorem crc32_counting_hundred : crc32 (counting 0 100) = 0x58C932F5#32 := by
  have hquarter₁ : (counting 0 25).foldl crcByte 0xFFFFFFFF#32 = 662645747#32 := by decide +kernel
  have hquarter₂ : (counting 25 25).foldl crcByte 662645747#32 = 1257473536#32 := by decide +kernel
  have hquarter₃ : (counting 50 25).foldl crcByte 1257473536#32 = 1011884412#32 := by decide +kernel
  have hquarter₄ : (counting 75 25).foldl crcByte 1011884412#32 = 2805386506#32 := by decide +kernel
  rw [crc32, ← counting_append 0 75 25, ← counting_append 0 50 25, ← counting_append 0 25 25]
  simp only [List.foldl_append, Nat.zero_add, hquarter₁, hquarter₂, hquarter₃, hquarter₄]
  decide

/-- The first frame of R133's worked example. -/
theorem wrap_e0_counting_hundred : wrap Config.e0 0x0301#16 (counting 0 100) =
    [0x31#8, 0x4B#8, 0x53#8, 0x52#8, 0xF5#8, 0x32#8, 0xC9#8, 0x58#8, 0x03#8, 0x00#8, 0x01#8, 0x03#8] ++
      counting 0 100 := by
  rw [wrap, crc32_counting_hundred]
  exact congrArg (· ++ counting 0 100) (by decide)

/-- ENGINE_NEXT on R133's worked example: the first 100 of 300 bytes go out and the cursor stays open at 100. -/
theorem engineNext_e0_counting {b : Block} (hv : b.curValid = false)
    (hq : b.queue = [⟨0x0301#16, counting 0 300⟩]) :
    ∃ b', engineNext Config.e0 b = some (wrap Config.e0 0x0301#16 (counting 0 100), b') ∧
      b'.curOff = 100 ∧ b'.queue = [] ∧ b'.retValid = true := by
  have hchunk : ((counting 0 300).drop 0).take 100 = counting 0 100 := by
    rw [List.drop_zero, ← counting_append 0 100 200, List.take_left' (counting_length 0 100)]
  have hnext := ((engineNextRule Config.e0 b).2 0x0301#16 (counting 0 300) 0 100 [] (.inr ⟨hv, rfl, hq⟩)
    (by rw [counting_length]; rfl)).2 (by rw [counting_length]; decide)
  rw [hchunk] at hnext
  exact ⟨_, hnext, rfl, rfl, rfl⟩

/-- Settles O25: the encoding of a command without a tag, one rule of NEXT_FRAME for each clause, ENGINE_NEXT's frame, and
the worked example. -/
theorem nextFrameCommand : Obligations.NextFrameCommand := by
  refine ⟨encodedOnlyBy_encode (i := .nextFrame) rfl, fun s hcap => exec_of_result ?_,
    fun s n hcap => ⟨fun hnone => exec_of_result ?_, fun F b' hsome => ?_⟩, fun s B hs hB hcap => ?_⟩
  · rw [commandResult, hcap, runNextFrame_null]
  · rw [commandResult, hcap, runNextFrame_of_none _ _ hnone]
  · obtain ⟨hstate, -, -, hretry, -, -, hphase, -, -⟩ := engineNext_frame hsome
    refine ⟨fun hn => exec_of_result ?_, fun hn => exec_of_result ?_, engineNext_frame_length hsome, hphase, hretry,
      hstate⟩
    · rw [commandResult, hcap, runNextFrame_of_too_small _ hsome hn]
    · rw [commandResult, hcap, runNextFrame_of_fits _ hsome hn]
  · rw [map_range_eq_counting] at hB ⊢
    obtain ⟨b', hsome, hoff, hqueue, hret⟩ :=
      engineNext_e0_counting (congrArg Block.curValid hs) (hB ▸ congrArg Block.queue hs)
    refine ⟨b', execUnder_of_result ?_, hoff, hqueue, hret⟩
    rw [commandResult, hcap, runNextFrame_of_fits _ hsome (by rw [wrap_length, counting_length]; decide),
      wrap_e0_counting_hundred]

/-! ### CURRENT_FRAME (R136) -/

section
variable {b : Block} {n : Nat}

theorem runCurrentFrame_null (b : Block) : runCurrentFrame none b = (b, Response.of .nullInput) := needCap_none ..

theorem runCurrentFrame_of_nothing (n : Nat) (h : b.retValid = false) :
    runCurrentFrame (some n) b = (b, Response.of .empty) := by
  simp [runCurrentFrame, needCap_some, h, respond]

theorem runCurrentFrame_of_too_small (h : b.retValid = true) (hn : n < b.retFrame.length) :
    runCurrentFrame (some n) b = (b, Response.of .bufferTooSmall) := by
  rw [runCurrentFrame, needCap_some, if_pos h, emit_of_too_small hn]

theorem runCurrentFrame_of_fits (h : b.retValid = true) (hn : b.retFrame.length ≤ n) :
    runCurrentFrame (some n) b = (b, frameResponse b.retFrame) := by
  rw [runCurrentFrame, needCap_some, if_pos h, emit_of_fits hn]

end

/-- Settles O26: the encoding of a command without a tag and one rule of CURRENT_FRAME for each clause; reset and
exhaustion leave no retained frame. -/
theorem currentFrameCommand : Obligations.CurrentFrameCommand := by
  refine ⟨encodedOnlyBy_encode (i := .currentFrame) rfl, fun s hcap => exec_of_result ?_,
    fun s n hcap hblock => exec_of_result ?_,
    fun s n hcap => ⟨fun hret => exec_of_result ?_, fun hret hn => exec_of_result ?_, fun hret hn => exec_of_result ?_⟩⟩
  · rw [commandResult, hcap, runCurrentFrame_null]
  · have hret : s.block.retValid = false := by
      rcases hblock with hreset | ⟨b, hexhausted⟩
      · rw [hreset]; rfl
      · rw [hexhausted]; rfl
    rw [commandResult, hcap, runCurrentFrame_of_nothing _ hret]
  · rw [commandResult, hcap, runCurrentFrame_of_nothing _ hret]
  · rw [commandResult, hcap, runCurrentFrame_of_too_small hret hn]
  · rw [commandResult, hcap, runCurrentFrame_of_fits hret hn]

end Sys2Proof.Machine
end

section
/-! How a message is cut into frames (41_queue.md R135): the arithmetic of the chunks, ENGINE_NEXT iterated as the
relation `Yields` on blocks, and the NEXT_FRAME commands that carry such an iteration out. -/

namespace Sys2Proof.Machine

/-! ### The chunks of a body -/

section
variable (c : Config)

/-- Frame `j` exists if it is the first, or if its chunk begins inside the body. -/
theorem lt_frameCount_iff (j L : Nat) : j < frameCount c L ↔ j = 0 ∨ j * c.maxFrameSize < L := by
  have hpos := c.maxFrameSize_pos
  unfold frameCount
  split
  · omega
  · rw [Nat.lt_iff_add_one_le, Nat.le_div_iff_mul_le hpos, Nat.succ_mul]
    constructor
    · omega
    · rintro (rfl | h) <;> omega

theorem frameCount_pos (L : Nat) : 0 < frameCount c L := (lt_frameCount_iff c 0 L).mpr (.inl rfl)

/-- The frames reach the end of the body. -/
theorem le_frameCount_mul (L : Nat) : L ≤ frameCount c L * c.maxFrameSize := by
  have hnone := (lt_frameCount_iff c (frameCount c L) L).not.mp (lt_irrefl _)
  omega

/-- A frame fewer would not reach the end of a body of at least one byte. -/
theorem frameCount_pred_mul_lt {L : Nat} (hL : 1 ≤ L) : (frameCount c L - 1) * c.maxFrameSize < L := by
  have hlast : frameCount c L - 1 < frameCount c L := Nat.sub_lt (frameCount_pos c L) Nat.one_pos
  rcases (lt_frameCount_iff c _ L).mp hlast with hfirst | hinside
  · rw [hfirst]
    omega
  · exact hinside

variable (m : Message)

/-- Frame `j` of a message (R135). -/
def frameAt (j : Nat) : ByteString := wrap c m.tag (bytesFrom m.body (j * c.maxFrameSize) c.maxFrameSize)

theorem messageFrames_eq_map_frameAt :
    messageFrames c m = (List.range (frameCount c m.body.length)).map (frameAt c m) := rfl

theorem messageFrames_length : (messageFrames c m).length = frameCount c m.body.length := by
  rw [messageFrames_eq_map_frameAt, List.length_map, List.length_range]

theorem messageFrames_getElem?_eq_some {j : Nat} {F : ByteString} (h : (messageFrames c m)[j]? = some F) :
    F = frameAt c m j := by
  obtain ⟨hj, rfl⟩ := List.getElem?_eq_some_iff.mp h
  simp only [messageFrames_eq_map_frameAt, List.getElem_map, List.getElem_range]

theorem payloadOf_frameAt (j : Nat) :
    payloadOf (frameAt c m j) = bytesFrom m.body (j * c.maxFrameSize) c.maxFrameSize := payloadOf_wrap ..

theorem payloadOf_frameAt_length (j : Nat) :
    (payloadOf (frameAt c m j)).length = min c.maxFrameSize (m.body.length - j * c.maxFrameSize) := by
  rw [payloadOf_frameAt, bytesFrom, List.length_take, List.length_drop]

/-- The first `k` chunks of a byte string, joined, are its beginning. -/
theorem flatten_map_bytesFrom (B : ByteString) (size k : Nat) :
    ((List.range k).map fun j => bytesFrom B (j * size) size).flatten = B.take (k * size) := by
  induction k with
  | zero => simp
  | succ k ih =>
    rw [List.range_succ, List.map_append, List.map_singleton, List.flatten_append, ih, List.flatten_singleton,
      bytesFrom, Nat.succ_mul, List.take_add]

/-- No byte of the body is lost (R135). -/
theorem flatten_payloads : ((messageFrames c m).map payloadOf).flatten = m.body := by
  rw [messageFrames_eq_map_frameAt, List.map_map]
  exact (flatten_map_bytesFrom m.body c.maxFrameSize _).trans (List.take_of_length_le (le_frameCount_mul c _))

/-- An empty message yields its header alone. -/
theorem messageFrames_empty (tag : U16) : messageFrames c ⟨tag, []⟩ = [wrap c tag []] := by
  simp [messageFrames, frameCount, bytesFrom]

/-- The length of a payload: MAX_FRAME_SIZE but for the last frame, which carries what is left (R135). -/
theorem payloadOf_frameAt_length_cases {j : Nat} :
    (j + 1 < frameCount c m.body.length → (payloadOf (frameAt c m j)).length = c.maxFrameSize) ∧
    (j + 1 = frameCount c m.body.length →
      (payloadOf (frameAt c m j)).length =
        m.body.length - (frameCount c m.body.length - 1) * c.maxFrameSize) := by
  rw [payloadOf_frameAt_length]
  constructor
  · intro hmore
    have hinside := ((lt_frameCount_iff c _ _).mp hmore).resolve_left (Nat.succ_ne_zero j)
    rw [Nat.succ_mul] at hinside
    omega
  · intro hlast
    have hend := le_frameCount_mul c m.body.length
    rw [← hlast, Nat.succ_mul] at hend
    rw [← hlast, Nat.add_sub_cancel]
    omega

end

/-! ### ENGINE_NEXT iterated -/

/-- ENGINE_NEXT, iterated from the first block, yields the frames of the list in order and ends in the second block. -/
inductive Yields (c : Config) : Block → List ByteString → Block → Prop where
  /-- no frame -/
  | done (b : Block) : Yields c b [] b
  /-- one frame, then the rest -/
  | frame {b b₁ b' : Block} {F : ByteString} {Fs : List ByteString} :
    engineNext c b = some (F, b₁) → Yields c b₁ Fs b' → Yields c b (F :: Fs) b'

/-- The chunk ENGINE_NEXT cuts at frame `j`'s offset is frame `j`: it stops at the end of the body by itself. -/
theorem wrap_min_eq_frameAt (c : Config) (m : Message) (j : Nat) :
    wrap c m.tag (bytesFrom m.body (j * c.maxFrameSize)
      (min c.maxFrameSize (m.body.length - j * c.maxFrameSize))) = frameAt c m j := by
  rw [frameAt, bytesFrom, bytesFrom, ← List.length_drop, ← List.take_eq_take_min]

section
variable {c : Config} {b : Block} {m : Message} {rest : List Message} {j : Nat}

/-- At a frame's offset ENGINE_NEXT yields this frame; after the last one the cursor is closed, before it the next
frame's offset is the source. -/
theorem engineNext_frameAt (hsrc : chunkSource b = some (m, j * c.maxFrameSize, rest))
    (hj : j < frameCount c m.body.length) :
    ∃ b', engineNext c b = some (frameAt c m j, b') ∧
      (j + 1 = frameCount c m.body.length → b'.curValid = false ∧ b'.queue = rest) ∧
      (j + 1 < frameCount c m.body.length → chunkSource b' = some (m, (j + 1) * c.maxFrameSize, rest)) := by
  have hnext := Nat.add_one_mul j c.maxFrameSize
  refine ⟨_, by rw [engineNext_of_source c hsrc, wrap_min_eq_frameAt], fun hlast => ?_, fun hmore => ?_⟩
  · have hend := le_frameCount_mul c m.body.length
    have hstart : j * c.maxFrameSize ≤ m.body.length := by
      rcases (lt_frameCount_iff c j m.body.length).mp hj with rfl | hinside
      · rw [Nat.zero_mul]; exact Nat.zero_le _
      · exact hinside.le
    rw [← hlast] at hend
    rw [Block.advanceCursor_of_end (by omega)]
    exact ⟨rfl, rfl⟩
  · have hinside := ((lt_frameCount_iff c _ _).mp hmore).resolve_left (Nat.succ_ne_zero j)
    have hstop : j * c.maxFrameSize + min c.maxFrameSize (m.body.length - j * c.maxFrameSize) =
        (j + 1) * c.maxFrameSize := by omega
    rw [hstop, Block.advanceCursor_of_inside hinside.ne]
    exact chunkSource_cursor rfl

/-- From a frame's offset ENGINE_NEXT yields this frame and all later ones of the message. -/
theorem yields_from_frame (k : Nat) (hk : j + (k + 1) = frameCount c m.body.length)
    (hsrc : chunkSource b = some (m, j * c.maxFrameSize, rest)) :
    ∃ b', Yields c b ((List.range' j (k + 1)).map (frameAt c m)) b' ∧ b'.curValid = false ∧ b'.queue = rest := by
  induction k generalizing j b with
  | zero =>
    obtain ⟨b', hnext, hlast, -⟩ := engineNext_frameAt hsrc (by omega)
    exact ⟨b', .frame hnext (.done b'), hlast hk⟩
  | succ k ih =>
    obtain ⟨b₁, hnext, -, hmore⟩ := engineNext_frameAt hsrc (by omega)
    obtain ⟨b', hyields, hclosed⟩ := ih (by omega) (hmore (by omega))
    exact ⟨b', .frame hnext hyields, hclosed⟩

/-- With no cursor open, ENGINE_NEXT yields the frames of the message at the head, and no other. -/
theorem yields_messageFrames (hv : b.curValid = false) (hq : b.queue = m :: rest) :
    ∃ b', Yields c b (messageFrames c m) b' ∧ b'.curValid = false ∧ b'.queue = rest := by
  obtain ⟨k, hk⟩ := Nat.exists_eq_succ_of_ne_zero (frameCount_pos c m.body.length).ne'
  rw [messageFrames_eq_map_frameAt, List.range_eq_range', hk]
  exact yields_from_frame k (by omega) (by rw [Nat.zero_mul]; exact chunkSource_head hv hq)

end

/-! ### NEXT_FRAME commands in a row -/

/-- One step on a legal command of an agent, from the command's result. -/
theorem step_request {s : State} {a : Agent} {i : Instr} {data : Option ByteString} {cap : Option Nat}
    {later : List HostEvent} {b : Block} {r : Response}
    (hs : s.host.schedule = .command a (request i data cap) :: later)
    (hres : commandResult Config.chosen i ((s.withSchedule later).latch (request i data cap)).port s.block = (b, r)) :
    step s = .next (deliver a (((s.withSchedule later).latch (request i data cap)).after b r)) := by
  rw [step_command hs, issueFor, issue_legal (r := request i data cap) (decode_encode i),
    exec_of_result (s := (s.withSchedule later).latch (request i data cap)) hres, thenNext_next]

theorem run_succ {s u : State} (h : step s = .next u) (k : Nat) :
    Host.Core.run Sys2Proof.core (k + 1) s = Host.Core.run Sys2Proof.core k u := by
  have hcore : Sys2Proof.core.step s = .next u := h
  simp only [Host.Core.run, hcore]

/-- As many NEXT_FRAME commands as ENGINE_NEXT yields frames, with a capacity that always suffices, answer these frames
in order, whatever is scheduled after them. -/
theorem run_nextFrames {b b' : Block} {Fs : List ByteString} (hyields : Yields Config.chosen b Fs b') (a : Agent)
    {n : Nat} (hn : headerSize + Config.chosen.maxFrameSize ≤ n) (later : List HostEvent) {s : State}
    (hb : s.block = b)
    (hs : s.host.schedule =
      List.replicate Fs.length (.command a (request .nextFrame none (some n))) ++ later) :
    ∃ t : State, Host.Core.run Sys2Proof.core Fs.length s = .next t ∧ t.block = b' ∧ t.host.schedule = later ∧
      t.host.responses = (Fs.map fun F => (a, frameResponse F)).reverse ++ s.host.responses := by
  induction hyields generalizing s with
  | done b => exact ⟨s, rfl, hb, hs, rfl⟩
  | frame hnext _ ih =>
    have hfits := (engineNext_frame_length hnext).trans hn
    rw [List.length_cons, List.replicate_succ, List.cons_append] at hs
    have hstep := step_request hs (hb ▸ runNextFrame_of_fits _ hnext hfits)
    obtain ⟨t, hrun, hblock, hlater, hresponses⟩ := ih
      (s := deliver a (((s.withSchedule _).latch (request .nextFrame none (some n))).after _ (frameResponse _))) rfl rfl
    refine ⟨t, (run_succ hstep _).trans hrun, hblock, hlater, ?_⟩
    rw [hresponses]
    simp

/-- Settles O27: the count and the payloads by the arithmetic of the chunks, the run by ENGINE_NEXT's frames for the
message at the head. -/
theorem messageYieldsItsFrames : Obligations.MessageYieldsItsFrames := by
  refine ⟨fun c tag => ⟨messageFrames_empty c tag, wrap_length .., rdLe32_wrap_checksum ..⟩,
    fun c m hL => ⟨⟨_, messageFrames_length c m, ?_, le_frameCount_mul c _, fun j F hF => ?_⟩, flatten_payloads c m⟩,
    fun s a m rest n hv hq hn => ?_⟩
  · have hpred := frameCount_pred_mul_lt c hL
    have hsucc := Nat.succ_mul (frameCount c m.body.length - 1) c.maxFrameSize
    rw [Nat.succ_eq_add_one, Nat.sub_add_cancel (frameCount_pos c _)] at hsucc
    omega
  · obtain rfl := messageFrames_getElem?_eq_some c m hF
    exact ⟨by rw [payloadOf_frameAt, frameAt], payloadOf_frameAt_length_cases c m⟩
  · obtain ⟨b', hyields, hclosed, hrest⟩ := yields_messageFrames (c := Config.chosen) hv hq
    obtain ⟨t, hrun, rfl, -, hresponses⟩ := run_nextFrames hyields a hn []
      (s := s.withSchedule (List.replicate (messageFrames Config.chosen m).length
        (.command a (request .nextFrame none (some n))))) rfl (List.append_nil _).symm
    exact ⟨t, hrun, hresponses, hclosed, hrest⟩

end Sys2Proof.Machine
end

section
/-! The retained frame (41_queue.md R137): everything a command that may emit a frame can do, the commands that write
S.ret_frame, and why every emission of the engine's frames in between is the retained one. -/

namespace Sys2Proof.Machine

/-! ### Commands that may emit a frame -/

/-- The result keeps the block and answers a status other than OK, so no frame goes out (60_exceptions.md R212). -/
def NoFrame (b : Block) (p : Result) : Prop := ∃ st, st ≠ .ok ∧ p = (b, Response.of st)

theorem NoFrame.status_ne_ok {b : Block} {p : Result} (h : NoFrame b p) : p.2.status ≠ .ok := by
  obtain ⟨st, hst, rfl⟩ := h
  exact hst

theorem NoFrame.block_eq {b : Block} {p : Result} (h : NoFrame b p) : p.1 = b := by
  obtain ⟨st, -, rfl⟩ := h
  rfl

theorem noFrame_empty (b : Block) : NoFrame b (respond b .empty) := ⟨.empty, by decide, rfl⟩

/-- A frame output that fits is what the frame's answer is; one that does not fit is no frame. -/
theorem emit_noFrame_or {b b' : Block} {F : ByteString} {Q : Result → Prop} (h : Q (b', frameResponse F)) (n : Nat) :
    NoFrame b (emit n F b b') ∨ Q (emit n F b b') := by
  rcases emit_cases n F b b' with ⟨-, he⟩ | ⟨-, he⟩
  · exact .inr (by rwa [he])
  · exact .inl ⟨.bufferTooSmall, by decide, he⟩

/-- Without a capacity there is no frame; with one the command decides. -/
theorem needCap_noFrame_or {b : Block} {k : Nat → Result} {Q : Result → Prop} (h : ∀ n, NoFrame b (k n) ∨ Q (k n))
    (cap : Option Nat) : NoFrame b (needCap cap b k) ∨ Q (needCap cap b k) := by
  cases cap with
  | none => exact .inl ⟨.nullInput, by decide, rfl⟩
  | some n => exact h n

/-- Everything NEXT_FRAME can do (R133). -/
theorem runNextFrame_cases (c : Config) (cap : Option Nat) (b : Block) :
    NoFrame b (runNextFrame c cap b) ∨
    ∃ F b', engineNext c b = some (F, b') ∧ runNextFrame c cap b = (b', frameResponse F) := by
  refine needCap_noFrame_or (Q := fun p => ∃ F b', engineNext c b = some (F, b') ∧ p = (b', frameResponse F))
    (fun n => ?_) cap
  split
  · exact .inl (noFrame_empty b)
  · next F b' hnext =>
    exact (emit_noFrame_or (Q := (· = (b', frameResponse F))) rfl n).imp_right fun h => ⟨F, b', hnext, h⟩

/-- Everything CURRENT_FRAME can do (R136). -/
theorem runCurrentFrame_cases (cap : Option Nat) (b : Block) :
    NoFrame b (runCurrentFrame cap b) ∨
    b.retValid = true ∧ runCurrentFrame cap b = (b, frameResponse b.retFrame) := by
  refine needCap_noFrame_or (Q := fun p => b.retValid = true ∧ p = (b, frameResponse b.retFrame)) (fun n => ?_) cap
  split
  · next hret =>
    exact (emit_noFrame_or (Q := (· = (b, frameResponse b.retFrame))) rfl n).imp_right fun h => ⟨hret, h⟩
  · exact .inl (noFrame_empty b)

/-- The results of POLL that carry a frame, each with the guards of R150's pseudocode under which it is answered. -/
inductive PollEmits (c : Config) (b : Block) : Result → Prop where
  /-- the pending control response -/
  | control : b.halted = false → inContact b.state = true → b.ctrlValid = true →
    PollEmits c b ({ b with ctrlValid := false }, frameResponse (ctrlFrame c b.ctrlKind))
  /-- the retained frame again -/
  | resend : b.halted = false → b.state = .fileTransferActive → b.ctrlValid = false → b.phase = .resend →
    PollEmits c b ({ b with phase := .await }, frameResponse b.retFrame)
  /-- a new frame -/
  | new (F : ByteString) (b' : Block) : b.halted = false → b.state = .fileTransferActive → b.ctrlValid = false →
    b.phase = .ready → engineNext c b = some (F, b') →
    PollEmits c b ({ b' with phase := .await }, frameResponse F)

theorem pollFile_cases (c : Config) (n : Nat) {b : Block} (hh : b.halted = false)
    (hs : b.state = .fileTransferActive) (hv : b.ctrlValid = false) :
    NoFrame b (pollFile c n b) ∨ PollEmits c b (pollFile c n b) := by
  unfold pollFile
  split
  · exact .inl (noFrame_empty b)
  · next hp => exact emit_noFrame_or (.resend hh hs hv hp) n
  · next hp =>
    split
    · exact .inl (noFrame_empty b)
    · next F b' hnext => exact emit_noFrame_or (.new F b' hh hs hv hp hnext) n

/-- Everything POLL can do (R150). -/
theorem runPoll_cases (c : Config) (cap : Option Nat) (b : Block) :
    NoFrame b (runPoll c cap b) ∨ PollEmits c b (runPoll c cap b) := by
  refine needCap_noFrame_or (fun n => ?_) cap
  split
  · exact .inl (noFrame_empty b)
  next hh =>
  rw [Bool.not_eq_true] at hh
  split
  · exact .inl (noFrame_empty b)
  next hc =>
  have hcontact : inContact b.state = true := by simpa using hc
  split
  · next hv => exact emit_noFrame_or (.control hh hcontact hv) n
  next hv =>
  split
  · exact .inl (noFrame_empty b)
  · next hs => exact pollFile_cases c n hh (((inContact_iff _).mp hcontact).resolve_left hs) (by simpa using hv)

/-- A POLL that emits answers OK. The frame is the retained one that it leaves, but for a control response; and unless
it is a new one, it leaves the frame retained before (R137, R150). -/
theorem PollEmits.retained {c : Config} {b : Block} {p : Result} (h : PollEmits c b p) :
    p.2.status = .ok ∧ (b.ctrlValid = false → p.2.out = p.1.retFrame) ∧
    (¬ (b.ctrlValid = false ∧ b.phase = .ready) → p.1.retFrame = b.retFrame) := by
  cases h with
  | control _ _ hv => exact ⟨rfl, fun hnone => absurd (hv.symm.trans hnone) (by decide), fun _ => rfl⟩
  | resend => exact ⟨rfl, fun _ => rfl, fun _ => rfl⟩
  | new F b' _ _ hv hp hnext =>
    obtain ⟨-, -, -, -, -, -, -, -, hframe⟩ := engineNext_frame hnext
    exact ⟨rfl, fun _ => hframe.symm, fun hold => absurd ⟨hv, hp⟩ hold⟩

/-! ### The commands that write S.ret_frame -/

section
variable {c : Config} {b : Block} {cap : Option Nat}

theorem runNextFrame_keeps_retFrame (h : (runNextFrame c cap b).2.status ≠ .ok) :
    (runNextFrame c cap b).1.retFrame = b.retFrame := by
  rcases runNextFrame_cases c cap b with hno | ⟨F, b', -, hr⟩
  · rw [hno.block_eq]
  · exact absurd (by rw [hr]; rfl) h

theorem runCurrentFrame_block : (runCurrentFrame cap b).1 = b := by
  rcases runCurrentFrame_cases cap b with hno | ⟨-, hr⟩
  · exact hno.block_eq
  · rw [hr]

theorem runPoll_keeps_retFrame
    (h : ¬ (b.ctrlValid = false ∧ (runPoll c cap b).2.status = .ok ∧ b.phase = .ready)) :
    (runPoll c cap b).1.retFrame = b.retFrame := by
  rcases runPoll_cases c cap b with hno | hemits
  · rw [hno.block_eq]
  · obtain ⟨hok, -, hkeeps⟩ := hemits.retained
    exact hkeeps fun ⟨hv, hp⟩ => h ⟨hv, hok, hp⟩

theorem retryStep_keeps_retFrame (h : (retryStep c b).2.status ≠ .retryExhausted) :
    (retryStep c b).1.retFrame = b.retFrame := by
  rcases retryStep_cases c b with ⟨-, hr⟩ | ⟨-, -, hr⟩ | ⟨-, -, hr⟩
  · rw [hr]
  · exact absurd (by rw [hr]; rfl) h
  · rw [hr]

theorem runAddMessage_retFrame (tag : U16) (data : Option ByteString) :
    (runAddMessage c tag data b).1.retFrame = b.retFrame := by
  cases data with
  | none => rfl
  | some B =>
    rw [runAddMessage, needData_some]
    split
    · rfl
    · split <;> rfl

theorem endSuspension_retFrame : (endSuspension b).1.retFrame = b.retFrame := by
  rcases endSuspension_cases b with ⟨-, hr⟩ | ⟨-, hr⟩ <;> rw [hr]

/-- R137's list is complete: a command outside it leaves S.ret_frame as it was. -/
theorem commandResult_keeps_retFrame (i : Instr) (p : Port)
    (hnext : i = .nextFrame → (commandResult c i p b).2.status ≠ .ok)
    (hpoll : i = .poll → ¬ (b.ctrlValid = false ∧ (commandResult c i p b).2.status = .ok ∧ b.phase = .ready))
    (hretry : i = .nackReceived ∨ i = .ackTimeout → (commandResult c i p b).2.status ≠ .retryExhausted) :
    (commandResult c i p b).1.retFrame = b.retFrame := by
  cases i with
  | crc32 => exact congrArg Block.retFrame (runCrc32_block p.data b)
  | generate tag => exact congrArg Block.retFrame (runGenerate_block c tag p.data p.cap b)
  | parse => exact congrArg Block.retFrame (runParse_block c p.data b)
  | addMessage tag => exact runAddMessage_retFrame tag p.data
  | nextFrame => exact runNextFrame_keeps_retFrame (hnext rfl)
  | currentFrame => exact congrArg Block.retFrame runCurrentFrame_block
  | poll => exact runPoll_keeps_retFrame (hpoll rfl)
  | nackReceived => exact retryStep_keeps_retFrame (hretry (.inl rfl))
  | ackTimeout => exact retryStep_keeps_retFrame (hretry (.inr rfl))
  | ackReceived => rw [commandResult, runAckReceived]; split <;> rfl
  | beginPass => rw [commandResult, runBeginPass]; split <;> rfl
  | beginFileTransfer => rw [commandResult, runBeginFileTransfer]; split <;> rfl
  | ceaseTransmission => rw [commandResult, runCeaseTransmission]; split <;> rfl
  | resumeTransmission => exact endSuspension_retFrame
  | suspendElapsed => exact endSuspension_retFrame
  | passElapsed => rw [commandResult, runPassElapsed]; split <;> rfl
  | sendAck | sendNack | resetSat | readStatus => rfl

end

/-! ### Steps and runs -/

section
variable {a : Agent} {r : Request} {s t : State}

/-- What a step on a legal command leaves in the block and answers. -/
theorem stepsBy_result {i : Instr} (hd : decode r.word = .ok i) (h : StepsBy a r s t) :
    t.block = (commandResult Config.chosen i (s.latch r).port s.block).1 ∧
    t.port.response = (commandResult Config.chosen i (s.latch r).port s.block).2 := by
  have hstep := stepsBy_of_exec (a := a) (s := s) hd (exec_eq_complete i _)
  cases Host.Outcome.next.inj (h.symm.trans hstep)
  exact ⟨rfl, rfl⟩

/-- An illegal word leaves the block as it was (30_encoding.md R79). -/
theorem stepsBy_illegal_block {e : DecodeError} (hd : decode r.word = .error e) (h : StepsBy a r s t) :
    t.block = s.block := by
  cases Host.Outcome.next.inj (h.symm.trans (step_illegal rfl hd))
  rfl

theorem stepsBy_keeps_retFrame (h : StepsBy a r s t) (hw : ¬ WritesRetained s r t) :
    t.block.retFrame = s.block.retFrame := by
  rcases hd : decode r.word with e | i
  · rw [stepsBy_illegal_block hd h]
  obtain ⟨hblock, hresponse⟩ := stepsBy_result hd h
  rw [hblock]
  refine commandResult_keeps_retFrame i _ ?_ ?_ ?_
  · rintro rfl hok
    exact hw (.inl ⟨hd, hresponse ▸ hok⟩)
  · rintro rfl ⟨hv, hok, hp⟩
    exact hw (.inr (.inl ⟨⟨hd, hv, hresponse ▸ hok⟩, hp⟩))
  · rintro (rfl | rfl) hexhausted
    · exact hw (.inr (.inr ⟨.inl hd, hresponse ▸ hexhausted⟩))
    · exact hw (.inr (.inr ⟨.inr hd, hresponse ▸ hexhausted⟩))

theorem runsVia_keeps_retFrame (h : RunsVia (fun x q y => ¬ WritesRetained x q y) s t) :
    t.block.retFrame = s.block.retFrame := by
  induction h with
  | done s => rfl
  | command a r s t u hstep hw _ ih => exact ih.trans (stepsBy_keeps_retFrame hstep hw)

/-! ### Emissions of the retained frame -/

theorem nextFrame_emits_retained (hd : decode r.word = .ok .nextFrame) (h : StepsBy a r s t)
    (hok : t.port.response.status = .ok) : t.port.response.out = t.block.retFrame := by
  obtain ⟨hblock, hresponse⟩ := stepsBy_result hd h
  rw [hresponse] at hok ⊢
  rw [hblock]
  rcases runNextFrame_cases Config.chosen (s.latch r).port.cap s.block with hno | ⟨F, b', hnext, hr⟩
  · exact absurd hok hno.status_ne_ok
  · obtain ⟨-, -, -, -, -, -, -, -, hframe⟩ := engineNext_frame hnext
    rw [commandResult, hr]
    exact hframe.symm

theorem currentFrame_emits_retained (hd : decode r.word = .ok .currentFrame) (h : StepsBy a r s t)
    (hok : t.port.response.status = .ok) : t.port.response.out = t.block.retFrame := by
  obtain ⟨hblock, hresponse⟩ := stepsBy_result hd h
  rw [hresponse] at hok ⊢
  rw [hblock]
  rcases runCurrentFrame_cases (s.latch r).port.cap s.block with hno | ⟨-, hr⟩
  · exact absurd hok hno.status_ne_ok
  · rw [commandResult, hr]
    rfl

theorem poll_emits_retained (h : StepsBy a r s t) (he : EmitsFileFrame s r t) :
    t.port.response.out = t.block.retFrame := by
  obtain ⟨hd, hv, hok⟩ := he
  obtain ⟨hblock, hresponse⟩ := stepsBy_result hd h
  rw [hresponse] at hok ⊢
  rw [hblock]
  rcases runPoll_cases Config.chosen (s.latch r).port.cap s.block with hno | hemits
  · exact absurd hok hno.status_ne_ok
  · obtain ⟨-, hout, -⟩ := hemits.retained
    exact hout hv

theorem not_writesRetained_of_currentFrame (hd : decode r.word = .ok .currentFrame) : ¬ WritesRetained s r t := by
  simp [WritesRetained, EmitsFileFrame, IsRetry, hd]

theorem not_writesRetained_of_poll_resend (hp : s.block.phase = .resend) (he : EmitsFileFrame s r t) :
    ¬ WritesRetained s r t := by
  obtain ⟨hd, -, -⟩ := he
  simp [WritesRetained, IsRetry, hd, hp]

end

/-- Between an emission of the retained frame and a later re-emission, nothing changes the frame (R137). -/
theorem reemission_eq {a' : Agent} {r' : Request} {t u v : State}
    (hfirst : t.port.response.out = t.block.retFrame) (hrun : RunsVia (fun x q y => ¬ WritesRetained x q y) t u)
    (hstep : StepsBy a' r' u v) (hkeeps : ¬ WritesRetained u r' v)
    (hagain : v.port.response.out = v.block.retFrame) : v.port.response.out = t.port.response.out :=
  calc v.port.response.out = v.block.retFrame := hagain
    _ = u.block.retFrame := stepsBy_keeps_retFrame hstep hkeeps
    _ = t.block.retFrame := runsVia_keeps_retFrame hrun
    _ = t.port.response.out := hfirst.symm

/-- Settles O29: every emission of the engine's frames is the retained frame, which only the commands of R137's list
write. -/
theorem retransmissionIsIdempotent : Obligations.RetransmissionIsIdempotent := by
  refine ⟨fun a a' r r' s t u v hd hd' h hok hrun h' hok' => ?_, fun a a' r r' s t u v h hfirst hrun h' hagain => ?_⟩
  · exact reemission_eq (currentFrame_emits_retained hd h hok) hrun h' (not_writesRetained_of_currentFrame hd')
      (currentFrame_emits_retained hd' h' hok')
  · have hout : t.port.response.out = t.block.retFrame := by
      rcases hfirst with ⟨hd, hok⟩ | hemits
      · exact nextFrame_emits_retained hd h hok
      · exact poll_emits_retained h hemits
    rcases hagain with ⟨hd', hok'⟩ | ⟨hemits, hp⟩
    · exact reemission_eq hout hrun h' (not_writesRetained_of_currentFrame hd')
        (currentFrame_emits_retained hd' h' hok')
    · exact reemission_eq hout hrun h' (not_writesRetained_of_poll_resend hp hemits) (poll_emits_retained h' hemits)

end Sys2Proof.Machine
end

section
/-! The retransmission arbiter (42_arbiter.md): each command's answers as one rule per branch of its pseudocode, of every
configuration, and the statements about POLL, SEND_ACK, SEND_NACK, ACK_RECEIVED, NACK_RECEIVED and ACK_TIMEOUT. -/

namespace Sys2Proof.Machine

theorem inContact_eq_false_iff (l : Lifecycle) : inContact l = false ↔ l = .idle ∨ l = .suspended := by
  cases l <;> simp [inContact]

/-! ### POLL (R150) -/

section
variable (c : Config) {b : Block} (n : Nat)

theorem runPoll_null (b : Block) : runPoll c none b = (b, Response.of .nullInput) := needCap_none ..

/-- Halted or out of contact, POLL finds nothing to send. -/
theorem runPoll_of_silent (h : b.halted = true ∨ inContact b.state = false) :
    runPoll c (some n) b = (b, Response.of .empty) := by
  rcases h with hh | hc
  · simp [runPoll, needCap_some, hh, respond]
  · simp [runPoll, needCap_some, hc, respond]

/-- A pending control response comes before anything the phase decides (R170). -/
theorem runPoll_of_control (hh : b.halted = false) (hc : inContact b.state = true) (hv : b.ctrlValid = true) :
    runPoll c (some n) b = emit n (ctrlFrame c b.ctrlKind) b { b with ctrlValid := false } := by
  simp [runPoll, needCap_some, hh, hc, hv]

theorem runPoll_of_activePass (hh : b.halted = false) (hs : b.state = .activePass) (hv : b.ctrlValid = false) :
    runPoll c (some n) b = (b, Response.of .empty) := by
  simp [runPoll, needCap_some, hh, hs, hv, inContact, respond]

theorem runPoll_of_fileTransferActive (hh : b.halted = false) (hs : b.state = .fileTransferActive)
    (hv : b.ctrlValid = false) : runPoll c (some n) b = pollFile c n b := by
  simp [runPoll, needCap_some, hh, hs, hv, inContact]

theorem pollFile_of_await (hp : b.phase = .await) : pollFile c n b = (b, Response.of .empty) := by
  simp only [pollFile, hp, respond]

theorem pollFile_of_resend (hp : b.phase = .resend) :
    pollFile c n b = emit n b.retFrame b { b with phase := .await } := by
  simp only [pollFile, hp]

theorem pollFile_of_ready_of_none (hp : b.phase = .ready) (h : engineNext c b = none) :
    pollFile c n b = (b, Response.of .empty) := by
  simp only [pollFile, hp, h, respond]

theorem pollFile_of_ready_of_some (hp : b.phase = .ready) {F : ByteString} {b' : Block}
    (h : engineNext c b = some (F, b')) : pollFile c n b = emit n F b { b' with phase := .await } := by
  simp only [pollFile, hp, h]

/-- A message at the head that fits one frame goes out whole and leaves no cursor open (41_queue.md R134). -/
theorem engineNext_of_short_head {m : Message} {rest : List Message} (hv : b.curValid = false)
    (hq : b.queue = m :: rest) (hm : m.body.length ≤ c.maxFrameSize) :
    engineNext c b = some (wrap c m.tag m.body,
      { ({ b with queue := rest } : Block).dropCursor with retValid := true, retFrame := wrap c m.tag m.body }) := by
  have hchunk : min c.maxFrameSize (m.body.length - 0) = m.body.length := min_eq_right hm
  have hwhole : bytesFrom m.body 0 m.body.length = m.body := List.take_length
  rw [engineNext_of_source c (chunkSource_head hv hq), hchunk, hwhole, Block.advanceCursor_of_end (Nat.zero_add _)]

end

/-- What POLL does with a capacity, from the rules above to the step. -/
theorem exec_poll_of_result {s : State} {n : Nat} {b : Block} {r : Response} (hcap : s.port.cap = some n)
    (h : runPoll Config.chosen (some n) s.block = (b, r)) : exec .poll s = .next (s.after b r) :=
  exec_of_result (by rw [commandResult, hcap, h])

/-- The worked example of POLL: F_HELLO is the frame of the message at the head. -/
theorem poll_e0_hello {b : Block} (hh : b.halted = false) (hs : b.state = .fileTransferActive)
    (hv : b.ctrlValid = false) (hp : b.phase = .ready) (hcur : b.curValid = false)
    (hq : b.queue = [⟨0x0301#16, [0x48#8, 0x45#8, 0x4C#8, 0x4C#8, 0x4F#8]⟩]) :
    ∃ b', runPoll Config.e0 (some 64) b = (b', frameResponse b'.retFrame) ∧ b'.phase = .await ∧
      b'.retFrame = wrap Config.e0 0x0301#16 [0x48#8, 0x45#8, 0x4C#8, 0x4C#8, 0x4F#8] := by
  have hnext := engineNext_of_short_head Config.e0 hcur hq (by decide)
  have hfits := (wrap_length Config.e0 0x0301#16 [0x48#8, 0x45#8, 0x4C#8, 0x4C#8, 0x4F#8]).trans_le
    (show _ ≤ 64 by decide)
  exact ⟨_, (runPoll_of_fileTransferActive _ _ hh hs hv).trans
    ((pollFile_of_ready_of_some _ _ hp hnext).trans (emit_of_fits hfits _ _)), rfl, rfl⟩

/-- Settles O31: the encoding of a command without a tag, one rule of POLL for each branch of its pseudocode, and the
worked example. -/
theorem pollCommand : Obligations.PollCommand := by
  refine ⟨encodedOnlyBy_encode (i := .poll) rfl, fun s hcap => exec_of_result ?_,
    fun s n hcap => ⟨fun hsilent => ?_, fun hh hs hv => ?_, fun hh hs hv => ?_, fun hh hs hv => ?_⟩,
    fun s hh hs hv hp hcur hq hcap => ?_⟩
  · rw [commandResult, hcap, runPoll_null]
  · exact exec_poll_of_result hcap
      (runPoll_of_silent _ n (hsilent.imp_right (inContact_eq_false_iff s.block.state).mpr))
  · have hctrl := runPoll_of_control Config.chosen n hh ((inContact_iff _).mpr hs) hv
    exact ⟨fun hn => exec_poll_of_result hcap (hctrl.trans (emit_of_too_small hn _ _)),
      fun hn => exec_poll_of_result hcap (hctrl.trans (emit_of_fits hn _ _))⟩
  · exact exec_poll_of_result hcap (runPoll_of_activePass _ n hh hs hv)
  · have hfile := runPoll_of_fileTransferActive Config.chosen n hh hs hv
    refine ⟨fun hp => ?_, fun hp => ?_, fun hp => ⟨fun hnone => ?_, fun F b' hsome => ?_⟩⟩
    · exact exec_poll_of_result hcap (hfile.trans (pollFile_of_await _ n hp))
    · have hresend := hfile.trans (pollFile_of_resend _ n hp)
      exact ⟨fun hn => exec_poll_of_result hcap (hresend.trans (emit_of_too_small hn _ _)),
        fun hn => exec_poll_of_result hcap (hresend.trans (emit_of_fits hn _ _))⟩
    · exact exec_poll_of_result hcap (hfile.trans (pollFile_of_ready_of_none _ n hp hnone))
    · have hnew := hfile.trans (pollFile_of_ready_of_some _ n hp hsome)
      exact ⟨fun hn => exec_poll_of_result hcap (hnew.trans (emit_of_too_small hn _ _)),
        fun hn => exec_poll_of_result hcap (hnew.trans (emit_of_fits hn _ _))⟩
  · obtain ⟨b', hpoll, hphase, hframe⟩ := poll_e0_hello hh hs hv hp hcur hq
    exact ⟨b', execUnder_of_result (by rw [commandResult, hcap, hpoll]), hphase, hframe.trans wrap_e0_hello⟩

/-! ### The preemption law (R170) -/

theorem ctrlFrame_length_le (c : Config) (k : CtrlKind) : (ctrlFrame c k).length ≤ headerSize + c.maxFrameSize := by
  cases k with
  | ack => rw [ctrlFrame, wrap_length]; exact Nat.add_le_add_left c.ackBody_le _
  | nack => rw [ctrlFrame, wrap_length]; exact Nat.add_le_add_left c.nackBody_le _

theorem NoFrame.out_eq_nil {b : Block} {p : Result} (h : NoFrame b p) : p.2.out = [] := by
  obtain ⟨st, -, rfl⟩ := h
  rfl

/-- With a control response pending, POLL emits its frame and clears the request, or emits nothing. -/
theorem runPoll_of_pending (c : Config) (cap : Option Nat) {b : Block} (hv : b.ctrlValid = true) :
    NoFrame b (runPoll c cap b) ∨
    runPoll c cap b = ({ b with ctrlValid := false }, frameResponse (ctrlFrame c b.ctrlKind)) := by
  refine (runPoll_cases c cap b).imp_right fun hemits => ?_
  generalize hp : runPoll c cap b = p at hemits
  cases hemits with
  | control => rfl
  | resend _ _ hnone => exact absurd (hv.symm.trans hnone) (by decide)
  | new _ _ _ _ hnone => exact absurd (hv.symm.trans hnone) (by decide)

/-- Halted or out of contact, POLL emits no frame, whatever its capacity. -/
theorem runPoll_noFrame_of_silent (c : Config) (cap : Option Nat) {b : Block}
    (h : b.halted = true ∨ inContact b.state = false) : NoFrame b (runPoll c cap b) := by
  cases cap with
  | none => exact ⟨.nullInput, by decide, runPoll_null c b⟩
  | some n => exact ⟨.empty, by decide, runPoll_of_silent c n h⟩

/-- With a capacity too small for the pending control frame, POLL emits nothing in its place. -/
theorem runPoll_noFrame_of_small_cap (c : Config) {n : Nat} {b : Block} (hv : b.ctrlValid = true)
    (hn : n < (ctrlFrame c b.ctrlKind).length) : NoFrame b (runPoll c (some n) b) := by
  by_cases hsilent : b.halted = true ∨ inContact b.state = false
  · exact runPoll_noFrame_of_silent c (some n) hsilent
  · obtain ⟨hh, hc⟩ := not_or.mp hsilent
    rw [Bool.not_eq_true] at hh
    rw [Bool.not_eq_false] at hc
    exact ⟨.bufferTooSmall, by decide, (runPoll_of_control c n hh hc hv).trans (emit_of_too_small hn _ _)⟩

/-- Settles O32: what a POLL with a pending control response can do, the branches in which nothing goes out, and the
branch that emits. -/
theorem controlPreemptsBulkData : Obligations.ControlPreemptsBulkData := by
  refine ⟨fun s t hv hpoll => ?_, fun s hv hblocked => ?_, fun s n hs hh hv hcap hn => ?_⟩
  · rw [exec_eq_complete] at hpoll
    cases hpoll
    rcases runPoll_of_pending Config.chosen s.port.cap hv with hno | hemits
    · refine ⟨.inr ⟨hno.status_ne_ok, hno.out_eq_nil⟩, ?_⟩
      rw [State.complete_block, commandResult, hno.block_eq]
      exact ⟨rfl, rfl, rfl, rfl, rfl⟩
    · rw [State.complete_block, State.complete_response, commandResult, hemits]
      exact ⟨.inl ⟨rfl, rfl⟩, rfl, rfl, rfl, rfl, rfl⟩
  · have hno : NoFrame s.block (runPoll Config.chosen s.port.cap s.block) := by
      rcases hblocked with hh | hidle | hsuspended | hcap | ⟨n, hcap, hn⟩
      · exact runPoll_noFrame_of_silent _ _ (.inl hh)
      · exact runPoll_noFrame_of_silent _ _ (.inr (by rw [hidle]; rfl))
      · exact runPoll_noFrame_of_silent _ _ (.inr (by rw [hsuspended]; rfl))
      · exact hcap ▸ ⟨.nullInput, by decide, runPoll_null _ _⟩
      · exact hcap ▸ runPoll_noFrame_of_small_cap _ hv hn
    exact ⟨_, exec_eq_complete .poll s, hno.status_ne_ok, hno.out_eq_nil, hno.block_eq⟩
  · have hfits := (ctrlFrame_length_le Config.chosen s.block.ctrlKind).trans hn
    exact exec_poll_of_result hcap
      ((runPoll_of_control _ n hh ((inContact_iff _).mpr hs) hv).trans (emit_of_fits hfits _ _))

/-! ### SEND_ACK and SEND_NACK (R155, R156) -/

/-- The worked example of both requests: from reset, the request, BEGIN_PASS and POLL emit the control frame of E0. -/
theorem control_request_example {i : Instr} {k : CtrlKind}
    (hi : ∀ p b, commandResult Config.e0 i p b = ({ b with ctrlValid := true, ctrlKind := k }, Response.of .ok))
    (hn : (ctrlFrame Config.e0 k).length ≤ 64) :
    ∃ s₁ s₂ s₃ : State, execUnder Config.e0 i State.reset = .next s₁ ∧
      execUnder Config.e0 .beginPass s₁ = .next s₂ ∧
      execUnder Config.e0 .poll (s₂.latch (request .poll none (some 64))) = .next s₃ ∧
      s₃.port.response = frameResponse (ctrlFrame Config.e0 k) := by
  have hpoll := (runPoll_of_control Config.e0 64
    (b := { Block.reset with state := .activePass, ctrlValid := true, ctrlKind := k }) rfl rfl rfl).trans
    (emit_of_fits hn _ _)
  exact ⟨_, _, _, execUnder_of_result (hi _ _), execUnder_of_result rfl, execUnder_of_result hpoll, rfl⟩

/-- The Ack frame of E0. -/
theorem ctrlFrame_e0_ack : ctrlFrame Config.e0 .ack =
    [0x31#8, 0x4B#8, 0x53#8, 0x52#8, 0x8D#8, 0xEF#8, 0x02#8, 0xD2#8, 0x01#8, 0x00#8, 0x01#8, 0x01#8, 0x00#8] := by
  decide +kernel

/-- The Nack frame of E0. -/
theorem ctrlFrame_e0_nack : ctrlFrame Config.e0 .nack =
    [0x31#8, 0x4B#8, 0x53#8, 0x52#8, 0x8D#8, 0xEF#8, 0x02#8, 0xD2#8, 0x01#8, 0x00#8, 0x02#8, 0x01#8, 0x00#8] := by
  decide +kernel

/-- Settles O33: the encoding of a command without a tag, its one answer, and the worked example. -/
theorem sendAckCommand : Obligations.SendAckCommand := by
  refine ⟨encodedOnlyBy_encode (i := .sendAck) rfl, fun s => exec_of_result rfl, ?_⟩
  rw [← ctrlFrame_e0_ack]
  exact control_request_example (fun _ _ => rfl) (by rw [ctrlFrame_e0_ack]; decide)

/-- Settles O34: the encoding of a command without a tag, its one answer, and the worked example. -/
theorem sendNackCommand : Obligations.SendNackCommand := by
  refine ⟨encodedOnlyBy_encode (i := .sendNack) rfl, fun s => exec_of_result rfl, ?_⟩
  rw [← ctrlFrame_e0_nack]
  exact control_request_example (fun _ _ => rfl) (by rw [ctrlFrame_e0_nack]; decide)

/-! ### ACK_RECEIVED (R160) -/

theorem runAckReceived_of_no_contact {b : Block} (h : inContact b.state = false) :
    runAckReceived b = (b, Response.of .ignored) := by
  simp [runAckReceived, h, respond]

theorem runAckReceived_of_contact {b : Block} (h : inContact b.state = true) :
    runAckReceived b = ({ b with retry := 0#8, phase := .ready }, Response.of .ok) := by
  simp [runAckReceived, h, respond]

/-- Settles O35: the encoding of a command without a tag, and ACK_RECEIVED out of contact and in contact. -/
theorem ackReceivedCommand : Obligations.AckReceivedCommand :=
  ⟨encodedOnlyBy_encode (i := .ackReceived) rfl,
    fun _ hs => exec_of_result (runAckReceived_of_no_contact ((inContact_eq_false_iff _).mpr hs)),
    fun _ hs => exec_of_result (runAckReceived_of_contact ((inContact_iff _).mpr hs))⟩

/-! ### NACK_RECEIVED and ACK_TIMEOUT (R163 to R167) -/

section
variable {c : Config} {b : Block}

theorem retryStep_of_no_contact (h : inContact b.state = false) : retryStep c b = (b, Response.of .ignored) := by
  simp [retryStep, h, respond]

/-- In contact the counter, once incremented, decides (R164). -/
theorem retryStep_of_contact (h : inContact b.state = true) :
    retryStep c b =
      if c.retryMax < b.retry.toNat + 1 then (exhausted b, Response.of .retryExhausted)
      else ({ b with retry := b.retry + 1#8, phase := if b.retValid = true then .resend else b.phase },
        Response.of .ok) := by
  have hcount : BitVec.ofNat 8 (b.retry.toNat + 1) = b.retry + 1#8 := by
    rw [BitVec.ofNat_add, BitVec.ofNat_toNat, BitVec.setWidth_eq]
  rw [retryStep, if_pos h, hcount]
  rfl

theorem retryStep_of_exhausted (h : inContact b.state = true) (hn : c.retryMax < b.retry.toNat + 1) :
    retryStep c b = (exhausted b, Response.of .retryExhausted) := by
  rw [retryStep_of_contact h, if_pos hn]

theorem retryStep_of_allowed (h : inContact b.state = true) (hn : b.retry.toNat + 1 ≤ c.retryMax) :
    retryStep c b =
      ({ b with retry := b.retry + 1#8, phase := if b.retValid = true then .resend else b.phase },
        Response.of .ok) := by
  rw [retryStep_of_contact h, if_neg (by omega)]

end

theorem exec_nackReceived_of_no_contact {s : State} (h : inContact s.block.state = false) :
    exec .nackReceived s = .next (s.after s.block (Response.of .ignored)) :=
  exec_of_result (retryStep_of_no_contact h)

theorem exec_nackReceived_of_contact {s : State} (h : inContact s.block.state = true) :
    exec .nackReceived s = .next
      (if Config.chosen.retryMax < s.block.retry.toNat + 1
        then s.after (exhausted s.block) (Response.of .retryExhausted)
        else s.after { s.block with retry := s.block.retry + 1#8,
                                    phase := if s.block.retValid = true then .resend else s.block.phase }
          (Response.of .ok)) := by
  split
  · next hn => exact exec_of_result (retryStep_of_exhausted h hn)
  · next hn => exact exec_of_result (retryStep_of_allowed h (by omega))

/-- R167: the two commands have one meaning. -/
theorem exec_ackTimeout_eq_nackReceived (s : State) : exec .ackTimeout s = exec .nackReceived s := by
  rw [exec_eq_complete, exec_eq_complete, commandResult, commandResult]

/-- Settles O36: the encoding of a command without a tag, RETRY_STEP out of contact and in contact, a ceiling of 0, and
the worked example. -/
theorem nackReceivedCommand : Obligations.NackReceivedCommand := by
  refine ⟨encodedOnlyBy_encode (i := .nackReceived) rfl,
    fun s hs => exec_nackReceived_of_no_contact ((inContact_eq_false_iff _).mpr hs),
    fun s hs => exec_nackReceived_of_contact ((inContact_iff _).mpr hs),
    fun c s hmax hs => execUnder_of_result (retryStep_of_exhausted ((inContact_iff _).mpr hs) (by omega)),
    fun s hs hp hretry hret => execUnder_of_result ?_⟩
  rw [commandResult, retryStep_of_allowed ((inContact_iff _).mpr (.inr hs)) (by rw [hretry]; decide), hretry,
    if_pos hret]
  rfl

/-- Settles O37: the encoding of a command without a tag, NACK_RECEIVED's rules, and the worked example. -/
theorem ackTimeoutCommand : Obligations.AckTimeoutCommand := by
  refine ⟨encodedOnlyBy_encode (i := .ackTimeout) rfl, exec_ackTimeout_eq_nackReceived, fun s hs => ?_,
    fun s hs => ?_, fun s hs hretry _ => execUnder_of_result ?_⟩
  · rw [exec_ackTimeout_eq_nackReceived, exec_nackReceived_of_no_contact ((inContact_eq_false_iff _).mpr hs)]
  · rw [exec_ackTimeout_eq_nackReceived, exec_nackReceived_of_contact ((inContact_iff _).mpr hs)]
  · exact retryStep_of_exhausted ((inContact_iff _).mpr (.inr hs)) (by rw [hretry]; decide)

end Sys2Proof.Machine
end

section
/-! Exhaustion (42_arbiter.md R165, R168, R169): which commands answer RETRY_EXHAUSTED, by the statuses each command can
answer with; that the block then stays IDLE until BEGIN_PASS; and the run in which an exhausting NACK_RECEIVED ends the
wait that R168's list does not let it end. -/

namespace Sys2Proof.Machine

/-! ### The statuses of a command (30_encoding.md R76, 60_exceptions.md R211) -/

section
variable {L : List Status} {b : Block}

theorem needData_status {k : ByteString → Result} (hnull : .nullInput ∈ L) (hk : ∀ B, (k B).2.status ∈ L)
    (data : Option ByteString) : (needData data b k).2.status ∈ L := by
  cases data with
  | none => exact hnull
  | some B => exact hk B

theorem needCap_status {k : Nat → Result} (hnull : .nullInput ∈ L) (hk : ∀ n, (k n).2.status ∈ L)
    (cap : Option Nat) : (needCap cap b k).2.status ∈ L := by
  cases cap with
  | none => exact hnull
  | some n => exact hk n

theorem emit_status {b' : Block} (hok : .ok ∈ L) (hsmall : .bufferTooSmall ∈ L) (n : Nat) (F : ByteString) :
    (emit n F b b').2.status ∈ L := by
  rcases emit_cases n F b b' with ⟨-, he⟩ | ⟨-, he⟩
  · rw [he]; exact hok
  · rw [he]; exact hsmall

end

section
variable (c : Config) (tag : U16) (data : Option ByteString) (cap : Option Nat) (b : Block)

theorem runGenerate_status : (runGenerate c tag data cap b).2.status ∈ [.ok, .nullInput, .encodeError] := by
  refine needData_status (by decide) (fun B => needCap_status (by decide) (fun n => ?_) cap) data
  dsimp only
  split
  · simp [fail]
  · split <;> simp [fail, respondOut]

theorem runParse_status : (runParse c data b).2.status ∈
    [.ok, .nullInput, .bufferTooSmall, .malformedHeader, .checksumMismatch] := by
  refine needData_status (by decide) (fun B => ?_) data
  dsimp only
  repeat' split
  all_goals simp [fail]

theorem runAddMessage_status : (runAddMessage c tag data b).2.status ∈ [.ok, .nullInput, .queueFull] := by
  refine needData_status (by decide) (fun B => ?_) data
  repeat' split
  all_goals simp [fail, respond]

theorem runNextFrame_status : (runNextFrame c cap b).2.status ∈ [.ok, .nullInput, .empty, .bufferTooSmall] := by
  refine needCap_status (by decide) (fun n => ?_) cap
  split
  · simp [respond]
  · exact emit_status (by decide) (by decide) n _

theorem runCurrentFrame_status : (runCurrentFrame cap b).2.status ∈ [.ok, .nullInput, .empty, .bufferTooSmall] := by
  refine needCap_status (by decide) (fun n => ?_) cap
  split
  · exact emit_status (by decide) (by decide) n _
  · simp [respond]

theorem pollFile_status (n : Nat) : (pollFile c n b).2.status ∈ [.ok, .nullInput, .empty, .bufferTooSmall] := by
  unfold pollFile
  split
  · simp [respond]
  · exact emit_status (by decide) (by decide) n _
  · split
    · simp [respond]
    · exact emit_status (by decide) (by decide) n _

theorem runPoll_status : (runPoll c cap b).2.status ∈ [.ok, .nullInput, .empty, .bufferTooSmall] := by
  refine needCap_status (by decide) (fun n => ?_) cap
  split
  · simp [respond]
  split
  · simp [respond]
  split
  · exact emit_status (by decide) (by decide) n _
  split
  · simp [respond]
  · exact pollFile_status c b n

theorem retryStep_status : (retryStep c b).2.status ∈ [.ok, .ignored, .retryExhausted] := by
  rcases retryStep_cases c b with ⟨-, h⟩ | ⟨-, -, h⟩ | ⟨-, -, h⟩ <;> simp [h]

theorem endSuspension_status : (endSuspension b).2.status ∈ [.ok, .ignored] := by
  rcases endSuspension_cases b with ⟨-, h⟩ | ⟨-, h⟩ <;> simp [h]

end

/-- Every command answers with a status of its row. -/
theorem commandResult_status_mem (c : Config) (i : Instr) (p : Port) (b : Block) :
    (commandResult c i p b).2.status ∈ statusesOf i := by
  cases i with
  | crc32 => exact needData_status (by decide) (fun B => by simp [respondValue, statusesOf]) p.data
  | generate tag => exact runGenerate_status c tag p.data p.cap b
  | parse => exact runParse_status c p.data b
  | addMessage tag => exact runAddMessage_status c tag p.data b
  | nextFrame => exact runNextFrame_status c p.cap b
  | currentFrame => exact runCurrentFrame_status p.cap b
  | poll => exact runPoll_status c p.cap b
  | nackReceived | ackTimeout => exact retryStep_status c b
  | resumeTransmission | suspendElapsed => exact endSuspension_status b
  | ackReceived => rw [commandResult, runAckReceived]; split <;> simp [respond, statusesOf]
  | beginPass => rw [commandResult, runBeginPass]; split <;> simp [respond, statusesOf]
  | beginFileTransfer => rw [commandResult, runBeginFileTransfer]; split <;> simp [respond, statusesOf]
  | ceaseTransmission => rw [commandResult, runCeaseTransmission]; split <;> simp [respond, statusesOf]
  | passElapsed => rw [commandResult, runPassElapsed]; split <;> simp [respond, statusesOf]
  | sendAck | sendNack | resetSat | readStatus => exact List.mem_singleton.mpr rfl

/-! ### Exhaustion leaves the block IDLE (R165) -/

theorem isRetry_of_retryExhausted_mem {i : Instr} (h : .retryExhausted ∈ statusesOf i) :
    i = .nackReceived ∨ i = .ackTimeout := by
  cases i <;> simp [statusesOf] at h ⊢

theorem retryStep_block_of_exhausted {c : Config} {b : Block} (h : (retryStep c b).2.status = .retryExhausted) :
    (retryStep c b).1 = exhausted b := by
  rcases retryStep_cases c b with ⟨-, hr⟩ | ⟨-, -, hr⟩ | ⟨-, -, hr⟩
  · rw [hr] at h; cases h
  · rw [hr]
  · rw [hr] at h; cases h

/-- Only RETRY_STEP answers RETRY_EXHAUSTED, and it leaves R165's block. -/
theorem commandResult_block_of_exhausted {c : Config} {i : Instr} {p : Port} {b : Block}
    (h : (commandResult c i p b).2.status = .retryExhausted) : (commandResult c i p b).1 = exhausted b := by
  rcases isRetry_of_retryExhausted_mem (h ▸ commandResult_status_mem c i p b) with rfl | rfl
  · exact retryStep_block_of_exhausted h
  · exact retryStep_block_of_exhausted h

section
variable {a : Agent} {r : Request} {s t : State}

/-- An illegal word is answered with ILLEGAL_COMMAND (30_encoding.md R79). -/
theorem stepsBy_illegal_status {e : DecodeError} (hd : decode r.word = .error e) (h : StepsBy a r s t) :
    t.port.response.status = .illegalCommand := by
  cases Host.Outcome.next.inj (h.symm.trans (step_illegal rfl hd))
  rfl

theorem stepsBy_block_of_exhausted (h : StepsBy a r s t) (hex : t.port.response.status = .retryExhausted) :
    t.block = exhausted s.block := by
  rcases hd : decode r.word with e | i
  · cases (stepsBy_illegal_status hd h).symm.trans hex
  · obtain ⟨hblock, hresponse⟩ := stepsBy_result hd h
    rw [hblock]
    exact commandResult_block_of_exhausted (hresponse ▸ hex)

end

/-! ### Only BEGIN_PASS leaves IDLE (43_session.md R197) -/

section
variable {c : Config} {b : Block}

/-- ENGINE_NEXT does not look at S.state or write it, so NEXT_FRAME does not either. -/
theorem runNextFrame_state (cap : Option Nat) : (runNextFrame c cap b).1.state = b.state := by
  rcases runNextFrame_cases c cap b with hno | ⟨F, b', hnext, hr⟩
  · rw [hno.block_eq]
  · obtain ⟨hstate, -⟩ := engineNext_frame hnext
    rw [hr]
    exact hstate

theorem runAddMessage_state (tag : U16) (data : Option ByteString) :
    (runAddMessage c tag data b).1.state = b.state := by
  cases data with
  | none => rfl
  | some B =>
    rw [runAddMessage, needData_some]
    split
    · rfl
    · split <;> rfl

/-- In IDLE, a command other than BEGIN_PASS leaves the block IDLE. -/
theorem commandResult_keeps_idle {i : Instr} (hi : i ≠ .beginPass) (hb : b.state = .idle) (p : Port) :
    (commandResult c i p b).1.state = .idle := by
  have hcontact : inContact b.state = false := by rw [hb]; rfl
  cases i with
  | crc32 => rw [commandResult, runCrc32_block, hb]
  | generate tag => rw [commandResult, runGenerate_block, hb]
  | parse => rw [commandResult, runParse_block, hb]
  | addMessage tag => rw [commandResult, runAddMessage_state, hb]
  | nextFrame => rw [commandResult, runNextFrame_state, hb]
  | currentFrame => rw [commandResult, runCurrentFrame_block, hb]
  | poll => rw [commandResult, (runPoll_noFrame_of_silent c p.cap (.inr hcontact)).block_eq, hb]
  | ackReceived => rw [commandResult, runAckReceived_of_no_contact hcontact, hb]
  | nackReceived | ackTimeout => rw [commandResult, retryStep_of_no_contact hcontact, hb]
  | beginPass => exact absurd rfl hi
  | beginFileTransfer => simp [commandResult, runBeginFileTransfer, hb, respond]
  | ceaseTransmission => simp [commandResult, runCeaseTransmission, hb, respond]
  | resumeTransmission | suspendElapsed => simp [commandResult, endSuspension, hb, respond]
  | passElapsed => simp [commandResult, runPassElapsed, hb, respond]
  | sendAck | sendNack | resetSat | readStatus => exact hb

end

theorem stepsBy_keeps_idle {a : Agent} {r : Request} {s t : State} (hs : s.block.state = .idle)
    (hr : decode r.word ≠ .ok .beginPass) (h : StepsBy a r s t) : t.block.state = .idle := by
  rcases hd : decode r.word with e | i
  · rw [stepsBy_illegal_block hd h, hs]
  · obtain ⟨hblock, -⟩ := stepsBy_result hd h
    rw [hblock]
    exact commandResult_keeps_idle (fun hi => hr (hi ▸ hd)) hs _

theorem runsVia_keeps_idle {s t : State} (h : RunsVia (fun _ q _ => decode q.word ≠ .ok .beginPass) s t)
    (hs : s.block.state = .idle) : t.block.state = .idle := by
  induction h with
  | done s => exact hs
  | command a r s t u hstep hr _ ih => exact ih (stepsBy_keeps_idle hs hr hstep)

/-- Settles O40: exhaustion leaves the block IDLE, which only BEGIN_PASS leaves, and in IDLE retry commands are IGNORED. -/
theorem exhaustionReportedOnce : Obligations.ExhaustionReportedOnce := by
  intro a r s t u hstep hex hrun
  have hidle : t.block.state = .idle := congrArg Block.state (stepsBy_block_of_exhausted hstep hex)
  have hcontact : inContact u.block.state = false := by rw [runsVia_keeps_idle hrun hidle]; rfl
  have hignored := exec_nackReceived_of_no_contact hcontact
  exact ⟨hidle, hignored, (exec_ackTimeout_eq_nackReceived u).trans hignored⟩

/-! ### R168 as it is worded -/

/-- A legal command steps to a state with the block and the response of its result. -/
theorem exists_stepsBy (a : Agent) {i : Instr} {data : Option ByteString} {cap : Option Nat} {s : State} {b b' : Block}
    {resp : Response} (hb : s.block = b)
    (hres : commandResult Config.chosen i (s.latch (request i data cap)).port b = (b', resp)) :
    ∃ t, StepsBy a (request i data cap) s t ∧ t.block = b' ∧ t.port.response = resp :=
  ⟨_, stepsBy_of_exec (decode_encode i) (exec_of_result (s := (s.withSchedule []).latch _) (hb ▸ hres)), rfl, rfl⟩

/-- An empty frame is to be sent again at the retry ceiling, and an empty message waits behind it. -/
def resendAtCeiling : Block :=
  { Block.reset with
    state := .fileTransferActive
    phase := .resend
    retry := BitVec.ofNat 8 Config.chosen.retryMax
    queue := [⟨0#16, []⟩]
    retValid := true
    retFrame := wrap Config.chosen 0#16 [] }

theorem resendAtCeiling_retry : resendAtCeiling.retry.toNat = Config.chosen.retryMax :=
  Nat.mod_eq_of_lt (Config.chosen.retryMax_le.trans_lt (by decide))

theorem resendAtCeiling_inv : resendAtCeiling.Inv Config.chosen where
  queueDepth := Config.chosen.queueDepth_pos
  store := Nat.zero_le _
  retry := resendAtCeiling_retry.le
  cursor := nofun
  retained := fun _ =>
    have hlength : resendAtCeiling.retFrame.length = headerSize := wrap_length ..
    ⟨⟨0#16, [], Nat.zero_le _, rfl⟩, hlength.ge, hlength.trans_le (Nat.le_add_right ..)⟩
  phase := .inr (.inr rfl)
  inFlight := fun _ => rfl
  idle := nofun

/-- A command that R168 does not name is not on its list. -/
theorem not_endsWaitAsWorded_of_decode {s t : State} {r : Request} {i : Instr} (hd : decode r.word = .ok i)
    (hi : i ∉ [.ackReceived, .nackReceived, .ackTimeout, .passElapsed]) : ¬ EndsWaitAsWorded s r t := by
  simp only [List.mem_cons, List.not_mem_nil, or_false, not_or] at hi
  simp [EndsWaitAsWorded, IsRetry, hd, hi]

/-- An exhausting retry command is not on R168's list. -/
theorem not_endsWaitAsWorded_of_exhausted {s t : State} {r : Request} (hd : decode r.word = .ok .nackReceived)
    (hex : t.port.response.status = .retryExhausted) : ¬ EndsWaitAsWorded s r t := by
  simp [EndsWaitAsWorded, hd, hex]

theorem wrap_nil_length_le (c : Config) (tag : U16) : (wrap c tag []).length ≤ headerSize := (wrap_length ..).le

/-- The first POLL emits the retained frame again. -/
theorem poll_resendAtCeiling :
    runPoll Config.chosen (some headerSize) resendAtCeiling =
      ({ resendAtCeiling with phase := .await }, frameResponse (wrap Config.chosen 0#16 [])) := by
  rw [runPoll_of_fileTransferActive _ _ rfl rfl rfl, pollFile_of_resend _ _ rfl]
  exact emit_of_fits (wrap_nil_length_le _ _) _ _

/-- NACK_RECEIVED at the ceiling exhausts. -/
theorem retryStep_resendAtCeiling :
    retryStep Config.chosen { resendAtCeiling with phase := .await } =
      (exhausted resendAtCeiling, Response.of .retryExhausted) :=
  retryStep_of_exhausted rfl (Nat.lt_succ_of_le resendAtCeiling_retry.ge)

/-- Back in FILE_TRANSFER_ACTIVE after exhaustion, POLL emits the waiting message's frame. -/
theorem poll_after_exhausted :
    (runPoll Config.chosen (some headerSize)
      { exhausted resendAtCeiling with state := .fileTransferActive }).2.status = .ok := by
  have hnext := engineNext_of_short_head Config.chosen
    (b := { exhausted resendAtCeiling with state := .fileTransferActive }) rfl rfl (Nat.zero_le _)
  rw [runPoll_of_fileTransferActive _ _ rfl rfl rfl, pollFile_of_ready_of_some _ _ rfl hnext,
    emit_of_fits (wrap_nil_length_le _ _)]
  rfl

/-- Refutes O39: from `resendAtCeiling`, POLL re-emits the retained frame; NACK_RECEIVED exhausts, which R168 does not
count; and after BEGIN_PASS and BEGIN_FILE_TRANSFER, POLL emits the waiting message's frame. -/
theorem not_stopAndWaitAsWorded : ¬ Obligations.StopAndWaitAsWorded := by
  intro h
  obtain ⟨t, hpoll, htb, htr⟩ := exists_stepsBy .tx (i := .poll) (data := none) (cap := some headerSize)
    (s := { State.reset with block := resendAtCeiling }) rfl poll_resendAtCeiling
  obtain ⟨u₁, hnack, hb₁, hr₁⟩ := exists_stepsBy .rx (i := .nackReceived) (data := none) (cap := none) htb
    retryStep_resendAtCeiling
  obtain ⟨u₂, hpass, hb₂, -⟩ := exists_stepsBy .rx (i := .beginPass) (data := none) (cap := none)
    (b' := { exhausted resendAtCeiling with state := .activePass }) hb₁ rfl
  obtain ⟨u₃, hfile, hb₃, -⟩ := exists_stepsBy .rx (i := .beginFileTransfer) (data := none) (cap := none)
    (b' := { exhausted resendAtCeiling with state := .fileTransferActive }) hb₂ rfl
  obtain ⟨v, hagain, -, hvr⟩ := exists_stepsBy .tx (i := .poll) (data := none) (cap := some headerSize) hb₃ rfl
  have hrun : RunsVia (fun x q y => ¬ EndsWaitAsWorded x q y) t u₃ :=
    .command _ _ _ _ _ hnack (not_endsWaitAsWorded_of_exhausted (decode_encode _) (congrArg Response.status hr₁))
      (.command _ _ _ _ _ hpass (not_endsWaitAsWorded_of_decode (decode_encode _) (by decide))
        (.command _ _ _ _ _ hfile (not_endsWaitAsWorded_of_decode (decode_encode _) (by decide)) (.done u₃)))
  exact h _ _ _ _ { State.reset with block := resendAtCeiling } _ _ _ resendAtCeiling_inv hpoll
    ⟨decode_encode _, rfl, congrArg Response.status htr⟩ hrun hagain
    ⟨decode_encode _, congrArg Block.ctrlValid hb₃, (congrArg Response.status hvr).trans poll_after_exhausted⟩

end Sys2Proof.Machine
end

section
/-! The session lifecycle (43_session.md): each event's answers as one rule per branch of its pseudocode; the statements
about BEGIN_PASS, BEGIN_FILE_TRANSFER, CEASE_TRANSMISSION, RESUME_TRANSMISSION, SUSPEND_ELAPSED and PASS_ELAPSED; and
the transition table. -/

namespace Sys2Proof.Machine

/-! ### The rules (R180, R182, R184, R186, R190) -/

section
variable {b : Block}

theorem runBeginPass_of_idle (h : b.state = .idle) :
    runBeginPass b = ({ b with state := .activePass }, Response.of .ok) := by
  rw [runBeginPass, if_pos h, respond]

theorem runBeginPass_of_ne_idle (h : b.state ≠ .idle) : runBeginPass b = (b, Response.of .ignored) := by
  rw [runBeginPass, if_neg h, respond]

theorem runBeginFileTransfer_of_activePass (h : b.state = .activePass) :
    runBeginFileTransfer b = ({ b with state := .fileTransferActive, retry := 0#8 }, Response.of .ok) := by
  rw [runBeginFileTransfer, if_pos h, respond]

theorem runBeginFileTransfer_of_ne_activePass (h : b.state ≠ .activePass) :
    runBeginFileTransfer b = (b, Response.of .ignored) := by
  rw [runBeginFileTransfer, if_neg h, respond]

/-- From either active state, S.prev names the state that the suspension leaves. -/
theorem runCeaseTransmission_of_active {p : PrevActive} (h : b.state = p.toLifecycle) :
    runCeaseTransmission b = ({ b with prev := p, state := .suspended }, Response.of .ok) := by
  cases p <;> simp only [runCeaseTransmission, h, PrevActive.toLifecycle, respond]

theorem runCeaseTransmission_of_no_contact (h : inContact b.state = false) :
    runCeaseTransmission b = (b, Response.of .ignored) := by
  rcases (inContact_eq_false_iff _).mp h with hs | hs <;> simp only [runCeaseTransmission, hs, respond]

theorem endSuspension_of_suspended (h : b.state = .suspended) :
    endSuspension b = ({ b with state := b.prev.toLifecycle }, Response.of .ok) := by
  rw [endSuspension, if_pos h, respond]

theorem endSuspension_of_ne_suspended (h : b.state ≠ .suspended) : endSuspension b = (b, Response.of .ignored) := by
  rw [endSuspension, if_neg h, respond]

theorem runPassElapsed_of_idle (h : b.state = .idle) : runPassElapsed b = (b, Response.of .ignored) := by
  rw [runPassElapsed, if_pos h, respond]

theorem runPassElapsed_of_ne_idle (h : b.state ≠ .idle) :
    runPassElapsed b = ({ b with state := .idle, retry := 0#8, phase := .ready }, Response.of .ok) := by
  rw [runPassElapsed, if_neg h, respond]

end

/-! ### The statements about one event -/

/-- Settles O47: the encoding of a command without a tag, and BEGIN_PASS outside IDLE and in it. -/
theorem beginPassCommand : Obligations.BeginPassCommand :=
  ⟨encodedOnlyBy_encode (i := .beginPass) rfl, fun _ hs => exec_of_result (runBeginPass_of_ne_idle hs),
    fun _ hs => exec_of_result (runBeginPass_of_idle hs)⟩

/-- A file-transfer POLL in phase RESEND re-emits the retained frame (R150). -/
theorem runPoll_of_resend_fits (c : Config) {n : Nat} {b : Block} (hh : b.halted = false)
    (hs : b.state = .fileTransferActive) (hv : b.ctrlValid = false) (hp : b.phase = .resend)
    (hn : b.retFrame.length ≤ n) :
    runPoll c (some n) b = ({ b with phase := .await }, frameResponse b.retFrame) := by
  rw [runPoll_of_fileTransferActive c n hh hs hv, pollFile_of_resend c n hp, emit_of_fits hn]

/-- Settles O48: the encoding of a command without a tag, BEGIN_FILE_TRANSFER outside ACTIVE_PASS and in it, and POLL's
rule for phase RESEND in the block that it leaves. -/
theorem beginFileTransferCommand : Obligations.BeginFileTransferCommand :=
  ⟨encodedOnlyBy_encode (i := .beginFileTransfer) rfl,
    fun _ hs => exec_of_result (runBeginFileTransfer_of_ne_activePass hs),
    fun _ hs => exec_of_result (runBeginFileTransfer_of_activePass hs),
    fun _ _ hs hp hh hv hn => ⟨_, exec_of_result (runBeginFileTransfer_of_activePass hs),
      exec_poll_of_result rfl (runPoll_of_resend_fits _ hh rfl hv hp hn)⟩⟩

/-- Settles O49: the encoding of a command without a tag, and CEASE_TRANSMISSION out of contact and in each active
state. -/
theorem ceaseTransmissionCommand : Obligations.CeaseTransmissionCommand :=
  ⟨encodedOnlyBy_encode (i := .ceaseTransmission) rfl,
    fun _ hs => exec_of_result (runCeaseTransmission_of_no_contact ((inContact_eq_false_iff _).mpr hs)),
    fun _ hs => exec_of_result (runCeaseTransmission_of_active (p := .activePass) hs),
    fun _ hs => exec_of_result (runCeaseTransmission_of_active (p := .fileTransferActive) hs)⟩

/-- In SUSPENDED the lifecycle state becomes the one that S.prev names. -/
theorem exec_resumeTransmission_of_suspended {s : State} (hs : s.block.state = .suspended) :
    exec .resumeTransmission s =
      .next (s.after { s.block with state := s.block.prev.toLifecycle } (Response.of .ok)) :=
  exec_of_result (endSuspension_of_suspended hs)

/-- Settles O50: the encoding of a command without a tag, and RESUME_TRANSMISSION outside SUSPENDED and in it, for each
value of S.prev. -/
theorem resumeTransmissionCommand : Obligations.ResumeTransmissionCommand :=
  ⟨encodedOnlyBy_encode (i := .resumeTransmission) rfl,
    fun _ hs => exec_of_result (endSuspension_of_ne_suspended hs),
    fun _ hs => ⟨fun hp => by rw [exec_resumeTransmission_of_suspended hs, hp]; rfl,
      fun hp => by rw [exec_resumeTransmission_of_suspended hs, hp]; rfl⟩⟩

/-- R188: the two commands have one meaning. -/
theorem exec_suspendElapsed_eq_resumeTransmission (s : State) :
    exec .suspendElapsed s = exec .resumeTransmission s := by
  rw [exec_eq_complete, exec_eq_complete, commandResult, commandResult]

/-- Settles O51: the encoding of a command without a tag, and RESUME_TRANSMISSION's rules. -/
theorem suspendElapsedCommand : Obligations.SuspendElapsedCommand := by
  obtain ⟨-, hignored, hresumed⟩ := resumeTransmissionCommand
  refine ⟨encodedOnlyBy_encode (i := .suspendElapsed) rfl, exec_suspendElapsed_eq_resumeTransmission,
    fun s hs => ?_, fun s hs => ?_⟩
  · rw [exec_suspendElapsed_eq_resumeTransmission, hignored s hs]
  · rw [exec_suspendElapsed_eq_resumeTransmission]
    exact hresumed s hs

/-- Settles O52: the encoding of a command without a tag, and PASS_ELAPSED in IDLE and outside it. -/
theorem passElapsedCommand : Obligations.PassElapsedCommand :=
  ⟨encodedOnlyBy_encode (i := .passElapsed) rfl, fun _ hs => exec_of_result (runPassElapsed_of_idle hs),
    fun _ hs => exec_of_result (runPassElapsed_of_ne_idle hs)⟩

/-! ### The lifecycle table (R197) -/

/-- In an active state RETRY_STEP does what its two rows say. -/
theorem retryStep_eq_retryRow (c : Config) {b : Block} (h : inContact b.state = true) :
    retryStep c b = ((retryRow c b).1, Response.of (retryRow c b).2) := by
  rw [retryRow]
  split
  · next hn => exact retryStep_of_allowed h hn
  · next hn => exact retryStep_of_exhausted h (by omega)

/-- What the table of R197 says of an event: its row, or IGNORED where it has none. -/
def tableResult (c : Config) (i : Instr) (b : Block) : Result :=
  match lifecycleRow c i b with
  | some (b', st) => (b', Response.of st)
  | none => (b, Response.of .ignored)

/-- Every event does what the table says, each in all four states. -/
theorem commandResult_eq_tableResult (c : Config) {i : Instr} (hi : isEvent i = true) (p : Port) (b : Block) :
    commandResult c i p b = tableResult c i b := by
  unfold commandResult tableResult lifecycleRow
  cases i with
  | ackReceived =>
    cases hs : b.state <;> simp [hs, runAckReceived_of_contact, runAckReceived_of_no_contact, inContact]
  | nackReceived | ackTimeout =>
    cases hs : b.state <;> simp [hs, retryStep_of_no_contact, retryStep_eq_retryRow, inContact]
  | beginPass => cases hs : b.state <;> simp [hs, runBeginPass_of_idle, runBeginPass_of_ne_idle]
  | beginFileTransfer =>
    cases hs : b.state <;> simp [hs, runBeginFileTransfer_of_activePass, runBeginFileTransfer_of_ne_activePass]
  | ceaseTransmission =>
    cases hs : b.state with
    | idle | suspended => simp [hs, runCeaseTransmission_of_no_contact, inContact]
    | activePass => simp [runCeaseTransmission_of_active (p := .activePass) hs]
    | fileTransferActive => simp [runCeaseTransmission_of_active (p := .fileTransferActive) hs]
  | resumeTransmission | suspendElapsed =>
    cases hs : b.state <;> simp [hs, endSuspension_of_suspended, endSuspension_of_ne_suspended]
  | passElapsed => cases hs : b.state <;> simp [hs, runPassElapsed_of_idle, runPassElapsed_of_ne_idle]
  | resetSat => rfl
  | _ => exact absurd hi Bool.false_ne_true

/-- POLL takes and emits frames, and leaves the lifecycle state as it was. -/
theorem runPoll_state (c : Config) (cap : Option Nat) (b : Block) : (runPoll c cap b).1.state = b.state := by
  rcases runPoll_cases c cap b with hno | hemits
  · rw [hno.block_eq]
  generalize runPoll c cap b = p at hemits
  cases hemits with
  | control | resend => rfl
  | new F b' _ _ _ _ hnext =>
    obtain ⟨hstate, -⟩ := engineNext_frame hnext
    exact hstate

/-- A command that is no event leaves the lifecycle state as it was. -/
theorem commandResult_state_of_not_event (c : Config) {i : Instr} (hi : isEvent i = false) (p : Port) (b : Block) :
    (commandResult c i p b).1.state = b.state := by
  cases i with
  | crc32 => rw [commandResult, runCrc32_block]
  | generate tag => rw [commandResult, runGenerate_block]
  | parse => rw [commandResult, runParse_block]
  | addMessage tag => exact runAddMessage_state tag p.data
  | nextFrame => exact runNextFrame_state p.cap
  | currentFrame => rw [commandResult, runCurrentFrame_block]
  | poll => exact runPoll_state c p.cap b
  | sendAck | sendNack | readStatus => rfl
  | _ => exact absurd hi (by decide)

/-- R197's closing sentence: of the moves that write S.state, BEGIN_PASS starts in IDLE and the end of a suspension in
SUSPENDED, and no other leads to ACTIVE_PASS. -/
theorem BlockMove.state_ne_activePass {c : Config} {b b' : Block} (hm : BlockMove c b b')
    (h : b.state = .fileTransferActive) : b'.state ≠ .activePass := by
  have hkept : ∀ b₁ : Block, b₁.state = b.state → b₁.state ≠ .activePass := fun b₁ h₁ => by rw [h₁, h]; decide
  cases hm with
  | nextFrame _ F he =>
    obtain ⟨hstate, -⟩ := engineNext_frame he
    exact hkept _ hstate
  | pollNew b₁ F _ _ he =>
    obtain ⟨hstate, -⟩ := engineNext_frame he
    exact hkept _ hstate
  | beginPass hs => exact absurd (h.symm.trans hs) (by decide)
  | resume hs => exact absurd (h.symm.trans hs) (by decide)
  | exhaust | beginFileTransfer | cease | passElapsed => exact Lifecycle.noConfusion
  | _ => exact hkept _ rfl

/-- Settles O56: the events against the table, the frame of every other command, and the moves of the block. -/
theorem lifecycleTable : Obligations.LifecycleTable := by
  refine ⟨fun i s hi => ?_, fun i s t hi h => ?_, fun i s t h hs => ?_⟩
  · rw [exec_eq_complete, commandResult_eq_tableResult Config.chosen hi, tableResult]
    cases lifecycleRow Config.chosen i s.block <;> rfl
  · rw [exec_eq_complete] at h
    cases h
    exact commandResult_state_of_not_event Config.chosen hi s.port s.block
  · exact (exec_moves i s t h).state_ne_activePass hs

end Sys2Proof.Machine
end

section
/-! The status word (10_state.md R34, 43_session.md R196): it is the union of fields placed at their bits, and a field
reads back from where it was placed because no other reaches there. With it the statement about READ_STATUS. -/

namespace Sys2Proof.Machine

/-! ### A field of a word -/

section
variable {n : Nat} (x : BitVec n) (k : Nat)

/-- The word whose one field is `x`, from bit `k` upwards. -/
def placed : U32 := x.setWidth 32 <<< k

/-- A field that lies inside the word reads back from its bits. -/
theorem extractLsb'_placed (h : k + n ≤ 32) : (placed x k).extractLsb' k n = x := by
  ext i hi
  simp [placed, show k + i < 32 by omega, BitVec.getLsbD_eq_getElem hi]

/-- A field reads 0 from bits that it does not reach. -/
theorem extractLsb'_placed_apart {i m : Nat} (h : i + m ≤ k ∨ k + n ≤ i) : (placed x k).extractLsb' i m = 0#m := by
  ext j hj
  have houtside : i + j < k ∨ n ≤ i + j - k := by omega
  rcases houtside with hbelow | habove
  · simp [placed, hbelow]
  · simp [placed, BitVec.getLsbD_of_ge x _ habove]

end

theorem getLsbD_of_extractLsb' {w : U32} {k : Nat} {v : Bool} (h : w.extractLsb' k 1 = BitVec.ofBool v) :
    w.getLsbD k = v := by
  simpa using congrArg (BitVec.getLsbD · 0) h

/-! ### The fields of the status word (R34) -/

/-- What the low 8 bits of a number do not hold is shifted out of the word. -/
theorem ofNat_shiftLeft_eq_placed (q : Nat) : BitVec.ofNat 32 q <<< 24 = placed (BitVec.ofNat 8 q) 24 := by
  apply BitVec.eq_of_toNat_eq
  simp only [placed, BitVec.toNat_shiftLeft, BitVec.toNat_ofNat, BitVec.toNat_setWidth, Nat.shiftLeft_eq]
  omega

theorem statusWord_eq_placed (b : Block) : statusWord b =
    placed b.state.code 0 ||| placed b.prev.code 2 ||| placed (BitVec.ofBool b.halted) 3 ||| placed b.phase.code 4
      ||| placed (BitVec.ofBool b.ctrlValid) 6 ||| placed b.ctrlKind.code 7 ||| placed (BitVec.ofBool b.curValid) 8
      ||| placed (BitVec.ofBool b.retValid) 9 ||| placed b.retry 16 ||| placed (BitVec.ofNat 8 b.queue.length) 24 := by
  rw [statusWord, ofNat_shiftLeft_eq_placed]
  simp only [placed, BitVec.shiftLeft_zero]

/-- Each field reads its source from its bits, where every other field reads 0; bits 15:10 belong to no field. -/
theorem statusWord_fields (b : Block) :
    (statusWord b).extractLsb' 0 2 = b.state.code ∧
    (statusWord b).extractLsb' 2 1 = b.prev.code ∧
    (statusWord b).extractLsb' 3 1 = BitVec.ofBool b.halted ∧
    (statusWord b).extractLsb' 4 2 = b.phase.code ∧
    (statusWord b).extractLsb' 6 1 = BitVec.ofBool b.ctrlValid ∧
    (statusWord b).extractLsb' 7 1 = b.ctrlKind.code ∧
    (statusWord b).extractLsb' 8 1 = BitVec.ofBool b.curValid ∧
    (statusWord b).extractLsb' 9 1 = BitVec.ofBool b.retValid ∧
    (statusWord b).extractLsb' 10 6 = 0#6 ∧
    (statusWord b).extractLsb' 16 8 = b.retry ∧
    (statusWord b).extractLsb' 24 8 = BitVec.ofNat 8 b.queue.length := by
  simp (disch := decide) only [statusWord_eq_placed, BitVec.extractLsb'_or, extractLsb'_placed,
    extractLsb'_placed_apart, BitVec.or_zero, BitVec.zero_or, and_self]

/-- The HALTED bit is all that S.halted adds. -/
theorem statusWord_eq_or_halted (b : Block) :
    statusWord b = statusWord { b with halted := false } ||| placed (BitVec.ofBool b.halted) 3 := by
  have hclear : placed (BitVec.ofBool false) 3 = 0#32 := by decide
  have hlast : ∀ x y : U32, x ||| placed (BitVec.ofBool b.halted) 3 ||| y =
      x ||| y ||| placed (BitVec.ofBool b.halted) 3 := fun x y => by
    rw [BitVec.or_assoc, BitVec.or_comm _ y, ← BitVec.or_assoc]
  simp only [statusWord_eq_placed, hclear, BitVec.or_zero, hlast]

theorem statusWord_halted (b : Block) :
    statusWord { b with halted := true } = statusWord b ||| 0x00000008#32 := by
  have hset : ∀ v : Bool, placed (BitVec.ofBool true) 3 = placed (BitVec.ofBool v) 3 ||| 0x00000008#32 := by decide
  rw [statusWord_eq_or_halted, statusWord_eq_or_halted b, hset b.halted, BitVec.or_assoc]

/-- Settles O55: the encoding of a command without a tag, its one answer, the fields of the status word, and the worked
examples. -/
theorem readStatusCommand : Obligations.ReadStatusCommand := by
  refine ⟨encodedOnlyBy_encode (i := .readStatus) rfl, fun s => exec_of_result rfl, fun b hlen => ?_,
    ⟨rfl, rfl, rfl, rfl⟩, ⟨rfl, rfl, rfl, rfl⟩, ⟨rfl, rfl, rfl⟩, by decide,
    fun b hs hprev hh hp hctrl hkind hcur hret hretry hlen => ?_⟩
  · obtain ⟨hs, hprev, hh, hp, hctrl, hkind, hcur, hret, hzero, hretry, hqueue⟩ := statusWord_fields b
    refine ⟨hs, hprev, getLsbD_of_extractLsb' hh, hp, getLsbD_of_extractLsb' hctrl, hkind,
      getLsbD_of_extractLsb' hcur, getLsbD_of_extractLsb' hret, hzero, hretry, ?_⟩
    rw [hqueue]
    exact Nat.mod_eq_of_lt (by omega)
  · rw [statusWord, hs, hprev, hh, hp, hctrl, hkind, hcur, hret, hretry, hlen]
    decide

end Sys2Proof.Machine
end

section
/-! RESET_SAT (43_session.md R193). Only POLL and READ_STATUS read S.halted, so every other command does to a halted
block what it does to the block, and answers the same. -/

namespace Sys2Proof.Machine

/-! ### A halted block -/

/-- S with S.halted set. -/
def Block.halt (b : Block) : Block := { b with halted := true }

/-- A result with S.halted set in the block that it leaves. -/
def haltResult (p : Result) : Result := (p.1.halt, p.2)

/-- `State.halt` is `Block.halt` on the block, also of the block that a command leaves. -/
theorem State.halt_complete (s : State) (p : Result) : (s.complete p).halt = s.halt.complete (haltResult p) := rfl

/-! ### The ways a command decides: a halted block takes the same branch -/

theorem ite_halt {P : Prop} [Decidable P] {x x' y y' : Result} (hx : x' = haltResult x) (hy : y' = haltResult y) :
    (if P then x' else y') = haltResult (if P then x else y) := by
  rw [hx, hy, ← apply_ite]

section
variable {b : Block}

theorem needData_halt {k k' : ByteString → Result} (h : ∀ B, k' B = haltResult (k B)) (data : Option ByteString) :
    needData data b.halt k' = haltResult (needData data b k) := by
  cases data with
  | none => rfl
  | some B => exact h B

theorem needCap_halt {k k' : Nat → Result} (h : ∀ n, k' n = haltResult (k n)) (cap : Option Nat) :
    needCap cap b.halt k' = haltResult (needCap cap b k) := by
  cases cap with
  | none => rfl
  | some n => exact h n

theorem emit_halt (n : Nat) (F : ByteString) (b' : Block) : emit n F b.halt b'.halt = haltResult (emit n F b b') :=
  ite_halt rfl rfl

theorem advanceCursor_halt (m : Message) (stop : Nat) :
    b.halt.advanceCursor m stop = (b.advanceCursor m stop).halt := by
  by_cases hend : stop = m.body.length
  · rw [Block.advanceCursor_of_end hend, Block.advanceCursor_of_end hend]
    rfl
  · rw [Block.advanceCursor_of_inside hend, Block.advanceCursor_of_inside hend]
    rfl

/-- ENGINE_NEXT takes the same frame from a halted block. -/
theorem engineNext_halt (c : Config) : engineNext c b.halt = (engineNext c b).map (Prod.map id Block.halt) := by
  have hsrc : chunkSource b.halt = chunkSource b := rfl
  cases hb : chunkSource b with
  | none => rw [engineNext, engineNext, hsrc, hb, Option.map_none]
  | some p =>
    obtain ⟨m, off, rest⟩ := p
    have hqueue : { b.halt with queue := rest } = Block.halt { b with queue := rest } := rfl
    rw [engineNext_of_source c hb, engineNext_of_source c (hsrc.trans hb), hqueue, advanceCursor_halt]
    rfl

end

/-! ### The commands -/

section
variable (c : Config) (tag : U16) (data : Option ByteString) (cap : Option Nat) (b : Block)

theorem runCrc32_halt : runCrc32 data b.halt = haltResult (runCrc32 data b) := by
  refine needData_halt (fun B => ?_) data
  rfl

theorem runGenerate_halt : runGenerate c tag data cap b.halt = haltResult (runGenerate c tag data cap b) := by
  refine needData_halt (fun B => needCap_halt (fun n => ?_) cap) data
  exact ite_halt rfl (ite_halt rfl rfl)

theorem runParse_halt : runParse c data b.halt = haltResult (runParse c data b) := by
  refine needData_halt (fun B => ?_) data
  exact ite_halt rfl (ite_halt rfl (ite_halt rfl (ite_halt rfl rfl)))

theorem runAddMessage_halt : runAddMessage c tag data b.halt = haltResult (runAddMessage c tag data b) := by
  refine needData_halt (fun B => ?_) data
  exact ite_halt rfl (ite_halt rfl rfl)

theorem runCurrentFrame_halt : runCurrentFrame cap b.halt = haltResult (runCurrentFrame cap b) := by
  refine needCap_halt (fun n => ?_) cap
  exact ite_halt (emit_halt n b.retFrame b) rfl

theorem runNextFrame_halt : runNextFrame c cap b.halt = haltResult (runNextFrame c cap b) := by
  refine needCap_halt (fun n => ?_) cap
  rw [engineNext_halt]
  cases engineNext c b with
  | none => rfl
  | some p => exact emit_halt n p.1 p.2

theorem retryStep_halt : retryStep c b.halt = haltResult (retryStep c b) :=
  ite_halt (ite_halt rfl rfl) rfl

theorem runCeaseTransmission_halt : runCeaseTransmission b.halt = haltResult (runCeaseTransmission b) := by
  have hstate : b.halt.state = b.state := rfl
  rw [runCeaseTransmission, runCeaseTransmission, hstate]
  cases b.state <;> rfl

/-- A command other than POLL and READ_STATUS does not look at S.halted. -/
theorem commandResult_halt {i : Instr} (hpoll : i ≠ .poll) (hread : i ≠ .readStatus) (p : Port) :
    commandResult c i p b.halt = haltResult (commandResult c i p b) := by
  cases i with
  | crc32 => exact runCrc32_halt p.data b
  | generate tag => exact runGenerate_halt c tag p.data p.cap b
  | parse => exact runParse_halt c p.data b
  | addMessage tag => exact runAddMessage_halt c tag p.data b
  | nextFrame => exact runNextFrame_halt c p.cap b
  | currentFrame => exact runCurrentFrame_halt p.cap b
  | poll => exact absurd rfl hpoll
  | nackReceived | ackTimeout => exact retryStep_halt c b
  | ceaseTransmission => exact runCeaseTransmission_halt b
  | ackReceived | beginPass | beginFileTransfer | resumeTransmission | suspendElapsed | passElapsed =>
    exact ite_halt rfl rfl
  | sendAck | sendNack | resetSat => rfl
  | readStatus => exact absurd rfl hread

end

theorem exec_halt {i : Instr} {s t : State} (hpoll : i ≠ .poll) (hread : i ≠ .readStatus) (h : exec i s = .next t) :
    exec i s.halt = .next t.halt := by
  rw [exec_eq_complete] at h
  cases h
  rw [State.halt_complete, ← commandResult_halt Config.chosen s.block hpoll hread]
  exact exec_eq_complete i s.halt

/-- Settles O53: the encoding of a command without a tag, RESET_SAT's one answer, a halted POLL, every other command on
a halted block, the HALTED bit, and the moves of the block, which keep S.halted. -/
theorem resetSatCommand : Obligations.ResetSatCommand :=
  ⟨encodedOnlyBy_encode (i := .resetSat) rfl, fun _ => exec_of_result rfl,
    fun _ n hh hcap => exec_poll_of_result hcap (runPoll_of_silent _ n (.inl hh)),
    fun _ _ _ => exec_halt,
    fun s => exec_of_result (congrArg (respondValue s.halt.block) (statusWord_halted s.block)),
    fun i s t hh h => (exec_moves i s t h).keeps_halted hh⟩

end Sys2Proof.Machine
end

section
/-! Failing commands (60_exceptions.md R212, R217): a result other than OK and RETRY_EXHAUSTED keeps the block it found,
shown along the ways a command decides; and what RETRY_EXHAUSTED says of the state that RETRY_STEP found. -/

namespace Sys2Proof.Machine

/-! ### A failing result keeps the block (R212) -/

/-- The result keeps the block `b` unless it answers OK or RETRY_EXHAUSTED. -/
def KeepsOnFailure (b : Block) (p : Result) : Prop :=
  p.2.status ≠ .ok → p.2.status ≠ .retryExhausted → p.1 = b

section
variable {b : Block} {p q : Result}

theorem KeepsOnFailure.of_block_eq (h : p.1 = b) : KeepsOnFailure b p := fun _ _ => h

theorem KeepsOnFailure.of_ok (h : p.2.status = .ok) : KeepsOnFailure b p := fun hfails _ => absurd h hfails

theorem KeepsOnFailure.ite {P : Prop} [Decidable P] (hp : KeepsOnFailure b p) (hq : KeepsOnFailure b q) :
    KeepsOnFailure b (if P then p else q) := by
  split
  · exact hp
  · exact hq

theorem needData_keepsOnFailure {k : ByteString → Result} (h : ∀ B, KeepsOnFailure b (k B))
    (data : Option ByteString) : KeepsOnFailure b (needData data b k) := by
  cases data with
  | none => exact .of_block_eq rfl
  | some B => exact h B

/-! ### The commands -/

/-- ADD_MESSAGE writes only behind both checks of R131. -/
theorem runAddMessage_keepsOnFailure (c : Config) (tag : U16) (data : Option ByteString) :
    KeepsOnFailure b (runAddMessage c tag data b) := by
  refine needData_keepsOnFailure (fun B => ?_) data
  exact .ite (.of_block_eq rfl) (.ite (.of_block_eq rfl) (.of_ok rfl))

/-- NEXT_FRAME takes ENGINE_NEXT's block only with the frame that it answers (R133). -/
theorem runNextFrame_keepsOnFailure (c : Config) (cap : Option Nat) : KeepsOnFailure b (runNextFrame c cap b) := by
  rcases runNextFrame_cases c cap b with hno | ⟨F, b', -, hr⟩
  · exact .of_block_eq hno.block_eq
  · exact .of_ok (by rw [hr]; rfl)

/-- POLL writes only with the frame that it answers (R150). -/
theorem runPoll_keepsOnFailure (c : Config) (cap : Option Nat) : KeepsOnFailure b (runPoll c cap b) := by
  rcases runPoll_cases c cap b with hno | hemits
  · exact .of_block_eq hno.block_eq
  · obtain ⟨hok, -⟩ := hemits.retained
    exact .of_ok hok

/-- RETRY_STEP writes on OK and on RETRY_EXHAUSTED, the one failure that R217 lets change the block. -/
theorem retryStep_keepsOnFailure (c : Config) : KeepsOnFailure b (retryStep c b) := by
  rcases retryStep_cases c b with ⟨-, hr⟩ | ⟨-, -, hr⟩ | ⟨-, -, hr⟩
  · exact .of_block_eq (by rw [hr])
  · exact fun _ hnot => absurd (by rw [hr]; rfl) hnot
  · exact .of_ok (by rw [hr]; rfl)

theorem runCeaseTransmission_keepsOnFailure : KeepsOnFailure b (runCeaseTransmission b) := by
  unfold runCeaseTransmission
  split
  · exact .of_ok rfl
  · exact .of_ok rfl
  · exact .of_block_eq rfl
  · exact .of_block_eq rfl

theorem commandResult_keepsOnFailure (c : Config) (i : Instr) (p : Port) :
    KeepsOnFailure b (commandResult c i p b) := by
  cases i with
  | crc32 => exact .of_block_eq (runCrc32_block p.data b)
  | generate tag => exact .of_block_eq (runGenerate_block c tag p.data p.cap b)
  | parse => exact .of_block_eq (runParse_block c p.data b)
  | addMessage tag => exact runAddMessage_keepsOnFailure c tag p.data
  | nextFrame => exact runNextFrame_keepsOnFailure c p.cap
  | currentFrame => exact .of_block_eq runCurrentFrame_block
  | poll => exact runPoll_keepsOnFailure c p.cap
  | nackReceived | ackTimeout => exact retryStep_keepsOnFailure c
  | ceaseTransmission => exact runCeaseTransmission_keepsOnFailure
  | ackReceived | beginPass | beginFileTransfer | resumeTransmission | suspendElapsed =>
    exact .ite (.of_ok rfl) (.of_block_eq rfl)
  | passElapsed => exact .ite (.of_block_eq rfl) (.of_ok rfl)
  | sendAck | sendNack | resetSat | readStatus => exact .of_ok rfl

end

/-! ### Where RETRY_EXHAUSTED comes from (R164, R165, R217) -/

theorem retryStep_inContact_of_exhausted {c : Config} {b : Block}
    (h : (retryStep c b).2.status = .retryExhausted) : inContact b.state = true := by
  rcases retryStep_cases c b with ⟨-, hr⟩ | ⟨hcontact, -, -⟩ | ⟨hcontact, -, -⟩
  · rw [hr] at h; cases h
  · exact hcontact
  · exact hcontact

theorem commandResult_of_exhausted {c : Config} {i : Instr} {p : Port} {b : Block}
    (h : (commandResult c i p b).2.status = .retryExhausted) :
    (i = .nackReceived ∨ i = .ackTimeout) ∧ inContact b.state = true := by
  have hretry := isRetry_of_retryExhausted_mem (h ▸ commandResult_status_mem c i p b)
  refine ⟨hretry, ?_⟩
  rcases hretry with rfl | rfl
  · exact retryStep_inContact_of_exhausted h
  · exact retryStep_inContact_of_exhausted h

theorem ne_suspended_of_inContact {l : Lifecycle} (h : inContact l = true) : l ≠ .suspended := by
  rintro rfl
  cases h

/-! ### Steps -/

section
variable {a : Agent} {r : Request} {s t : State}

theorem stepsBy_keeps_block_of_failure (h : StepsBy a r s t) (hok : t.port.response.status ≠ .ok)
    (hex : t.port.response.status ≠ .retryExhausted) : t.block = s.block := by
  rcases hd : decode r.word with e | i
  · exact stepsBy_illegal_block hd h
  · obtain ⟨hblock, hresponse⟩ := stepsBy_result hd h
    rw [hresponse] at hok hex
    exact hblock.trans (commandResult_keepsOnFailure Config.chosen i _ hok hex)

theorem stepsBy_of_exhausted (h : StepsBy a r s t) (hex : t.port.response.status = .retryExhausted) :
    IsRetry r ∧ inContact s.block.state = true := by
  rcases hd : decode r.word with e | i
  · cases (stepsBy_illegal_status hd h).symm.trans hex
  · obtain ⟨-, hresponse⟩ := stepsBy_result hd h
    obtain ⟨hretry, hcontact⟩ := commandResult_of_exhausted (hresponse ▸ hex)
    rcases hretry with rfl | rfl
    · exact ⟨.inl hd, hcontact⟩
    · exact ⟨.inr hd, hcontact⟩

end

/-- Settles O11: every command keeps the block on failure, an illegal word among them, and RETRY_EXHAUSTED comes from
RETRY_STEP in contact, which leaves R165's block. -/
theorem failingCommandsChangeNothing : Obligations.FailingCommandsChangeNothing := by
  intro a r s t h
  refine ⟨stepsBy_keeps_block_of_failure h, fun hex => ?_⟩
  obtain ⟨hretry, hcontact⟩ := stepsBy_of_exhausted h hex
  exact ⟨hretry, ne_idle_of_inContact hcontact, ne_suspended_of_inContact hcontact,
    congrArg Block.state (stepsBy_block_of_exhausted h hex)⟩

end Sys2Proof.Machine
end

section
/-! Hazards of POLL's output capacity (70_reset_and_hazards.md R257): what a POLL has to send does not depend on its
capacity, so the capacity alone decides whether the frame goes out; and block reset (R240). -/

namespace Sys2Proof.Machine

/-! ### The frame a POLL has to send -/

section
variable {c : Config} {b : Block}

/-- What one capacity lets out is what POLL offers under every capacity: only the check of the frame's length against
the capacity is left. -/
theorem PollEmits.runPoll_eq_emit {p : Result} (h : PollEmits c b p) (n : Nat) :
    runPoll c (some n) b = emit n p.2.out b p.1 := by
  cases h with
  | control hh hc hv => exact runPoll_of_control c n hh hc hv
  | resend hh hs hv hp => exact (runPoll_of_fileTransferActive c n hh hs hv).trans (pollFile_of_resend c n hp)
  | new F b' hh hs hv hp hnext =>
    exact (runPoll_of_fileTransferActive c n hh hs hv).trans (pollFile_of_ready_of_some c n hp hnext)

theorem PollEmits.runPoll_of_too_small {p : Result} (h : PollEmits c b p) {n : Nat} (hn : n < p.2.out.length) :
    runPoll c (some n) b = (b, Response.of .bufferTooSmall) :=
  (h.runPoll_eq_emit n).trans (emit_of_too_small hn b p.1)

theorem PollEmits.runPoll_status_of_fits {p : Result} (h : PollEmits c b p) {n : Nat} (hn : p.2.out.length ≤ n) :
    (runPoll c (some n) b).2.status = .ok := by
  rw [h.runPoll_eq_emit n, emit_of_fits hn]
  rfl

/-- In FILE_TRANSFER_ACTIVE with no control response pending, the phase decides whether POLL has a frame. -/
theorem pollEmits_or_empty_of_fileTransferActive (hh : b.halted = false) (hs : b.state = .fileTransferActive)
    (hv : b.ctrlValid = false) :
    (∃ p, PollEmits c b p) ∨ ∀ n, runPoll c (some n) b = (b, Response.of .empty) := by
  have hfile n := runPoll_of_fileTransferActive c n hh hs hv
  cases hp : b.phase with
  | await => exact .inr fun n => (hfile n).trans (pollFile_of_await c n hp)
  | resend => exact .inl ⟨_, .resend hh hs hv hp⟩
  | ready =>
    cases hnext : engineNext c b with
    | none => exact .inr fun n => (hfile n).trans (pollFile_of_ready_of_none c n hp hnext)
    | some sent => exact .inl ⟨_, .new sent.1 sent.2 hh hs hv hp hnext⟩

/-- Either POLL has a frame to send, or it answers EMPTY whatever its capacity (R150). -/
theorem pollEmits_or_empty (c : Config) (b : Block) :
    (∃ p, PollEmits c b p) ∨ ∀ n, runPoll c (some n) b = (b, Response.of .empty) := by
  by_cases hsilent : b.halted = true ∨ inContact b.state = false
  · exact .inr fun n => runPoll_of_silent c n hsilent
  obtain ⟨hh, hc⟩ := not_or.mp hsilent
  rw [Bool.not_eq_true] at hh
  rw [Bool.not_eq_false] at hc
  cases hv : b.ctrlValid with
  | true => exact .inl ⟨_, .control hh hc hv⟩
  | false =>
    rcases (inContact_iff _).mp hc with hs | hs
    · exact .inr fun n => runPoll_of_activePass c n hh hs hv
    · exact pollEmits_or_empty_of_fileTransferActive hh hs hv

/-- Under the invariants no frame of POLL is longer than HEADER_SIZE + MAX_FRAME_SIZE: a control frame by its body's
bound (R6), a retained one by INV5 and INV7, a new one by its chunk (R134). -/
theorem PollEmits.out_length_le {p : Result} (h : PollEmits c b p) (hinv : b.Inv c) :
    p.2.out.length ≤ headerSize + c.maxFrameSize := by
  cases h with
  | control => exact ctrlFrame_length_le c b.ctrlKind
  | resend _ _ _ hp =>
    have hret : b.retValid = true := hinv.inFlight (by simp [hp])
    obtain ⟨-, -, hlen⟩ := hinv.retained hret
    exact hlen
  | new _ _ _ _ _ _ hnext => exact engineNext_frame_length hnext

theorem runPoll_status_of_enough (hinv : b.Inv c) {n : Nat} (hn : headerSize + c.maxFrameSize ≤ n) :
    (runPoll c (some n) b).2.status ≠ .bufferTooSmall := by
  rcases pollEmits_or_empty c b with ⟨p, hemits⟩ | hempty
  · rw [hemits.runPoll_status_of_fits ((hemits.out_length_le hinv).trans hn)]
    decide
  · simp [hempty n]

theorem runPoll_eq_of_bufferTooSmall {cap : Option Nat} (h : (runPoll c cap b).2.status = .bufferTooSmall) :
    runPoll c cap b = (b, Response.of .bufferTooSmall) := by
  rcases runPoll_cases c cap b with ⟨st, -, hno⟩ | hemits
  · rw [hno] at h ⊢
    exact congrArg (fun st => (b, Response.of st)) h
  · obtain ⟨hok, -⟩ := hemits.retained
    cases hok.symm.trans h

end

/-- Settles O42: a POLL that answers BUFFER_TOO_SMALL leaves what it found, so it fails again; a frame that one capacity
lets out, or the pending control frame, is what every smaller capacity refuses; and under the invariants every frame
fits in HEADER_SIZE + MAX_FRAME_SIZE. -/
theorem pollCapacity : Obligations.PollCapacity := by
  refine ⟨fun s t hpoll hsmall => ?_, fun s t m n hpoll hok hn => ?_, fun s n hs hh hv hcap hn => ?_,
    fun s t n hinv hcap hn hpoll => ?_⟩
  · rw [exec_eq_complete] at hpoll
    cases hpoll
    have hfails : commandResult Config.chosen .poll s.port s.block = (s.block, Response.of .bufferTooSmall) :=
      runPoll_eq_of_bufferTooSmall hsmall
    rw [hfails]
    exact ⟨rfl, rfl, exec_of_result hfails⟩
  · rw [exec_eq_complete] at hpoll
    cases hpoll
    rcases runPoll_cases Config.chosen (some m) s.block with hno | hemits
    · exact absurd hok hno.status_ne_ok
    · exact exec_poll_of_result rfl (hemits.runPoll_of_too_small hn)
  · exact exec_poll_of_result hcap
      ((PollEmits.control hh ((inContact_iff _).mpr hs) hv).runPoll_of_too_small hn)
  · rw [exec_eq_complete] at hpoll
    cases hpoll
    rw [State.complete_response, commandResult, hcap]
    exact runPoll_status_of_enough hinv hn

/-! ### Block reset (R240, R241) -/

theorem step_reset {s : State} {rest : List HostEvent} (h : s.host.schedule = .reset :: rest) :
    step s = .next (blockReset (s.withSchedule rest)) := by
  simp only [step, stepWith, h, runEvent]

/-- Settles O5: the reset block is R240's table, and a reset event puts it in place of the block. -/
theorem resetValues : Obligations.ResetValues :=
  ⟨rfl, ⟨rfl, rfl, rfl, rfl⟩, by decide, fun s rest h => ⟨blockReset (s.withSchedule rest), step_reset h, rfl⟩⟩

end Sys2Proof.Machine
end

section
/-! The encoding as a whole (30_encoding.md R78 to R82), put together from the decoder's and the encoder's facts. -/

namespace Sys2Proof

/-- Settles O1: a word decodes to a command exactly if it is that command's word. -/
theorem decodeInvertsEncode : Obligations.DecodeInvertsEncode :=
  ⟨fun i _ => decode_encode i, fun _ _ h => (eq_encode_of_decode h).symm⟩

/-- Settles O3: each word is the one its command assembles to. -/
theorem specWordsDecode : Obligations.SpecWordsDecode := by
  simp only [Obligations.SpecWordsDecode, decode_ok_iff_eq_encode]
  decide

end Sys2Proof
end

section
/-! One step, and what every step keeps: the invariants of 10_state.md R35 and the canonical don't-care fields. -/

namespace Sys2Proof.Machine

/-! ### The step on a legal command, and on a block reset -/

theorem step_legal {s : State} {a : Agent} {r : Request} {rest : List HostEvent} {i : Instr}
    (hs : s.host.schedule = .command a r :: rest) (hd : decode r.word = .ok i) :
    step s = thenNext (exec i ((s.withSchedule rest).latch r)) (deliver a) := by
  rw [step_command hs, issueFor, issue_legal hd]

/-- Settles O4: the event leaves the schedule, the request is latched, and the word's command runs there. -/
theorem stepRunsDecodedCommand : Obligations.StepRunsDecodedCommand := fun _ _ _ _ _ => step_legal

/-- Settles O59: a block reset writes the block and nothing else. -/
theorem blockResetKeepsPortAndHost : Obligations.BlockResetKeepsPortAndHost := fun _ _ => step_reset

/-! ### INV1 to INV8 (R35) -/

/-- Settles O7: a block reset establishes the invariants and every other step is a move, which keeps them. -/
theorem stepKeepsInvariants : Obligations.StepKeepsInvariants := fun _ _ => step_keeps_inv

/-! ### The canonical don't-care fields (93_implementation_defined.md I19) -/

theorem reset_canonical : Block.reset.Canonical := ⟨fun _ => ⟨rfl, rfl, rfl⟩, fun _ => rfl⟩

/-- Settles O6: every invariant holds of the reset block by its values. -/
theorem resetMeetsInvariants : Obligations.ResetMeetsInvariants := ⟨reset_inv Config.chosen, reset_canonical⟩

/-- ENGINE_NEXT leaves the cursor open or dropped, and a frame retained, whatever it found (41_queue.md R134). -/
theorem engineNext_canonical {c : Config} {b b' : Block} {F : ByteString} (h : engineNext c b = some (F, b')) :
    b'.Canonical := by
  obtain ⟨m, off, rest, -, -, rfl⟩ := engineNext_some h
  refine ⟨fun hclosed => ?_, nofun⟩
  by_cases hend : off + min c.maxFrameSize (m.body.length - off) = m.body.length
  · rw [Block.advanceCursor_of_end hend]
    exact ⟨rfl, rfl, rfl⟩
  · rw [Block.advanceCursor_of_inside hend] at hclosed
    cases hclosed

theorem BlockMove.keeps_canonical {c : Config} {b b' : Block} (hm : BlockMove c b b') (h : b.Canonical) :
    b'.Canonical := by
  cases hm with
  | nextFrame _ F he => exact engineNext_canonical he
  | pollNew b₁ F _ _ he => exact (engineNext_canonical he : b₁.Canonical)
  | exhaust => exact ⟨fun _ => ⟨rfl, rfl, rfl⟩, fun _ => rfl⟩
  | _ => exact h

/-- Settles O9: a block reset and ENGINE_NEXT and exhaustion write the canonical values, and no other move writes these
fields. -/
theorem stepKeepsCanonicalFields : Obligations.StepKeepsCanonicalFields := by
  intro s t hs h
  rcases step_block_cases h with ⟨-, -, hreset⟩ | hmove
  · rw [hreset]
    exact reset_canonical
  · exact hmove.keeps_canonical hs

end Sys2Proof.Machine
end

section
/-! What a command of any agent does, legal or not, as one equation; and RX's uplink procedure (60_exceptions.md R228)
as the carrying out of its table. With them: that every run answers, that the block sees nothing but the command, and
what TX transmits. -/

namespace Sys2Proof.Machine

/-! ### The result of a request -/

/-- The operands of a request as they stand on the port. -/
def Request.port (r : Request) : Port := { word := r.word, data := r.data, cap := r.cap, response := Response.of .ok }

/-- What the block makes of a request: the decoded command's result, or ILLEGAL_COMMAND (30_encoding.md R79). -/
def requestResult (r : Request) (b : Block) : Result :=
  match decode r.word with
  | .ok i => commandResult Config.chosen i r.port b
  | .error _ => fail b .illegalCommand

theorem requestResult_legal {r : Request} {i : Instr} (hd : decode r.word = .ok i) (b : Block) :
    requestResult r b = commandResult Config.chosen i r.port b := by
  rw [requestResult, hd]

theorem requestResult_illegal {r : Request} {e : DecodeError} (hd : decode r.word = .error e) (b : Block) :
    requestResult r b = (b, Response.of .illegalCommand) := by
  rw [requestResult, hd, fail]

theorem requestResult_request (i : Instr) (data : Option ByteString) (cap : Option Nat) (b : Block) :
    requestResult (request i data cap) b = commandResult Config.chosen i (request i data cap).port b :=
  requestResult_legal (r := request i data cap) (decode_encode i) b

/-- No command reads the response that an earlier one left on the port. -/
theorem commandResult_congr (c : Config) (i : Instr) {p p' : Port} (hdata : p.data = p'.data) (hcap : p.cap = p'.cap)
    (b : Block) : commandResult c i p b = commandResult c i p' b := by
  obtain ⟨w, data, cap, resp⟩ := p
  obtain ⟨w', data', cap', resp'⟩ := p'
  cases hdata
  cases hcap
  cases i <;> rfl

theorem commandResult_latch (i : Instr) (r : Request) (s : State) (b : Block) :
    commandResult Config.chosen i (s.latch r).port b = commandResult Config.chosen i r.port b :=
  commandResult_congr _ _ rfl rfl b

/-- What an agent's command makes of the machine: its operands stand on the port, its result in the block and in the
response, and the response is delivered. -/
def afterCommand (a : Agent) (r : Request) (s : State) : State :=
  deliver a ((s.latch r).complete (requestResult r s.block))

theorem issueFor_eq (a : Agent) (r : Request) (s : State) : issueFor exec a r s = .next (afterCommand a r s) := by
  rcases hd : decode r.word with e | i
  · rw [issueFor, issue_illegal hd, afterCommand, requestResult_illegal hd, State.complete_eq_after, thenNext_next]
  · rw [issueFor, issue_legal hd, exec_eq_complete, commandResult_latch, afterCommand, requestResult_legal hd,
      thenNext_next, State.latch_block]

section
variable (a : Agent) (r : Request) (s : State)

@[simp] theorem afterCommand_block : (afterCommand a r s).block = (requestResult r s.block).1 := rfl
@[simp] theorem afterCommand_response : (afterCommand a r s).port.response = (requestResult r s.block).2 := rfl
@[simp] theorem afterCommand_responses :
    (afterCommand a r s).host.responses = (a, (requestResult r s.block).2) :: s.host.responses := rfl

/-- A POLL of TX that answers OK transmits; no other command does (60_exceptions.md R226). -/
theorem afterCommand_transmitted :
    (afterCommand a r s).host.transmitted =
      if a = .tx ∧ r.word = encode .poll ∧ (requestResult r s.block).2.status = .ok
      then (requestResult r s.block).2.out :: s.host.transmitted else s.host.transmitted := rfl

end

theorem step_command_eq {s : State} {a : Agent} {r : Request} {rest : List HostEvent}
    (hs : s.host.schedule = .command a r :: rest) : step s = .next (afterCommand a r (s.withSchedule rest)) := by
  rw [step_command hs, issueFor_eq]

/-- A command in front of a schedule leaves the rest of it. -/
theorem step_scheduled (a : Agent) (r : Request) (s : State) (later : List HostEvent) :
    step (s.withSchedule (.command a r :: later)) = .next ((afterCommand a r s).withSchedule later) := by
  rw [step_command_eq (s := s.withSchedule (.command a r :: later)) (rest := later) rfl]
  rfl

theorem stepsBy_iff {a : Agent} {r : Request} {s t : State} :
    StepsBy a r s t ↔ t = afterCommand a r (s.withSchedule []) := by
  rw [StepsBy, step_scheduled, Host.Outcome.next.injEq, eq_comm]
  rfl

/-- Settles O15: the result of a request is a function of the request and the block. -/
theorem blockSeesOnlyTheCommand : Obligations.BlockSeesOnlyTheCommand := by
  intro a a' r s s' hblock
  refine ⟨_, _, stepsBy_iff.mpr rfl, stepsBy_iff.mpr rfl, ?_, ?_⟩
  · simp only [afterCommand_block, State.withSchedule_block, hblock]
  · simp only [afterCommand, State.complete, State.latch, State.withSchedule_block, State.withSchedule_port,
      deliver_port, hblock]

/-! ### The uplink procedure as its table (R228) -/

/-- RX hands on every action of a list. -/
def delegateAll (as : List HostAction) (t : State) : State := as.foldr delegate t

/-- RX issues the command that a line of R228's table names, if it names one. -/
def rxCommand (o : Option Instr) (s : State) : State :=
  match o with
  | none => s
  | some i => afterCommand .rx (bareRequest i) s

/-- A line of R228's table carried out: the command, what RX hands on, and the pair returned. -/
def uplinkEnd (o : (Status × Option U16) × Option Instr × List HostAction) (s : State) : State :=
  finishUplink o.1.1 o.1.2 (delegateAll o.2.2 (rxCommand o.2.1 s))

/-- RX takes up the next received byte string: it issues PARSE and keeps the response. -/
def uplinkStart (bytes : ByteString) (rest : List ByteString) (s : State) : State :=
  let t := afterCommand .rx (request .parse (some bytes) none) { s with host := { s.host with rxInbox := rest } }
  { t with host := { t.host with rxReply := some t.port.response } }

theorem rejectUplink_eq (st : Status) (s : State) :
    rejectUplink exec st s = .next (uplinkEnd ((st, none), some .sendNack, []) s) := by
  rw [rejectUplink, issueFor_eq, thenNext_next]
  rfl

/-- RX's turn after PARSE carries out the line of R228's table that the response selects. -/
theorem followUp_eq (h : HostServices) (r : Response) (s : State) :
    followUp exec h r s = .next (uplinkEnd (uplinkOutcome h r) s) := by
  by_cases hparsed : r.status ≠ .ok
  · rw [followUp, uplinkOutcome, if_pos hparsed, if_pos hparsed, rejectUplink_eq]
  rw [followUp, uplinkOutcome, if_neg hparsed, if_neg hparsed]
  cases hplain : (if h.confidential then h.decrypt r.out else some r.out) with
  | none => exact rejectUplink_eq .decryptFailed s
  | some P =>
    cases hvariant : h.variantOf r.tag with
    | none => exact rejectUplink_eq .unknownMessageTag s
    | some dec =>
      simp only
      cases dec P <;> simp only [acceptUplink, issueFor_eq, thenNext_next] <;> rfl

theorem rxTurn_of_reply (h : HostServices) {s : State} {r : Response} (hreply : s.host.rxReply = some r) :
    rxTurn exec h s = .next (uplinkEnd (uplinkOutcome h r) s) := by
  simp only [rxTurn, hreply, followUp_eq]

theorem rxTurn_of_inbox (h : HostServices) {s : State} {bytes : ByteString} {rest : List ByteString}
    (hreply : s.host.rxReply = none) (hinbox : s.host.rxInbox = bytes :: rest) :
    rxTurn exec h s = .next (uplinkStart bytes rest s) := by
  simp only [rxTurn, hreply, hinbox, startUplink, issueFor_eq, thenNext_next]
  rfl

/-- Everything a turn of RX can do. -/
theorem rxTurn_cases (h : HostServices) (s : State) :
    (∃ r, rxTurn exec h s = .next (uplinkEnd (uplinkOutcome h r) s)) ∨
    (∃ bytes rest, rxTurn exec h s = .next (uplinkStart bytes rest s)) ∨
    rxTurn exec h s = .next s := by
  cases hreply : s.host.rxReply with
  | some r => exact .inl ⟨r, rxTurn_of_reply h hreply⟩
  | none =>
    cases hinbox : s.host.rxInbox with
    | nil => exact .inr (.inr (by simp only [rxTurn, hreply, hinbox]))
    | cons bytes rest => exact .inr (.inl ⟨bytes, rest, rxTurn_of_inbox h hreply hinbox⟩)

theorem delegateAll_eq (as : List HostAction) (t : State) :
    delegateAll as t = { t with host := { t.host with delegated := as ++ t.host.delegated } } := by
  induction as with
  | nil => rfl
  | cons a as ih => rw [delegateAll, List.foldr_cons, ← delegateAll, ih]; rfl

/-- What the end of the uplink procedure adds to the command that RX issued. -/
theorem uplinkEnd_eq (o : (Status × Option U16) × Option Instr × List HostAction) (s : State) :
    uplinkEnd o s =
      { rxCommand o.2.1 s with
        host := { (rxCommand o.2.1 s).host with
          rxReply := none
          uplinkResults := o.1 :: (rxCommand o.2.1 s).host.uplinkResults
          delegated := o.2.2 ++ (rxCommand o.2.1 s).host.delegated } } := by
  rw [uplinkEnd, delegateAll_eq]
  rfl

theorem exec_latch_request (i : Instr) (data : Option ByteString) (cap : Option Nat) (s : State) :
    exec i (s.latch (request i data cap)) =
      .next ((s.latch (request i data cap)).complete (requestResult (request i data cap) s.block)) := by
  rw [exec_eq_complete, commandResult_latch, requestResult_request, State.latch_block]

/-- PARSE leaves the block as it was. -/
theorem requestResult_parse_block (data : Option ByteString) (cap : Option Nat) (b : Block) :
    (requestResult (request .parse data cap) b).1 = b := by
  rw [requestResult_request]
  exact runParse_block Config.chosen data b

theorem step_rxTurn (s : State) :
    step (s.withSchedule [.rxTurn]) = rxTurn exec HostServices.chosen (s.withSchedule []) := rfl

/-- Settles O58: RX's turn with bytes waiting is `uplinkStart`, and with a response held it is `uplinkEnd` of the line
that R228's table has for the response. -/
theorem uplinkProcedure : Obligations.UplinkProcedure := by
  refine ⟨fun s bytes rest hreply hinbox => ?_, fun s r hreply => ?_⟩
  · exact ⟨_, _, exec_latch_request .parse (some bytes) none s,
      (step_rxTurn s).trans (rxTurn_of_inbox _ (s := s.withSchedule []) hreply hinbox),
      requestResult_parse_block (some bytes) none s.block, rfl, rfl, rfl, rfl, rfl⟩
  · have hturn := (step_rxTurn s).trans (rxTurn_of_reply _ (s := s.withSchedule []) hreply)
    generalize uplinkOutcome HostServices.chosen r = o at hturn ⊢
    obtain ⟨pair, issued, handed⟩ := o
    rw [uplinkEnd_eq] at hturn
    refine ⟨_, hturn, rfl, ?_⟩
    cases issued with
    | none => exact ⟨rfl, rfl, rfl, rfl, rfl⟩
    | some i => exact ⟨rfl, rfl, rfl, _, exec_latch_request i none none s, rfl, rfl⟩

/-! ### Every event answers, and what it transmits -/

/-- The next state of one host event (20_memory.md R59). -/
theorem runEvent_answers (h : HostServices) (ev : HostEvent) (s : State) : SafeOutcome (runEvent exec h ev s) := by
  cases ev with
  | command a r => exact ⟨_, issueFor_eq a r s⟩
  | receive bytes => exact ⟨_, rfl⟩
  | rxTurn =>
    rcases rxTurn_cases h s with ⟨_, hturn⟩ | ⟨_, _, hturn⟩ | hturn
    · exact ⟨_, hturn⟩
    · exact ⟨_, hturn⟩
    · exact ⟨_, hturn⟩
  | reset => exact ⟨_, rfl⟩

theorem step_answers (s : State) : SafeOutcome (step s) := by
  cases hs : s.host.schedule with
  | nil => exact ⟨s, step_idle hs⟩
  | cons ev rest =>
    have hstep : step s = runEvent exec HostServices.chosen ev (s.withSchedule rest) := by
      simp only [step, stepWith, hs]
    rw [hstep]
    exact runEvent_answers _ _ _

/-- Settles O10: every step answers, so a run goes on to its last step. -/
theorem everyRunAnswers : Obligations.EveryRunAnswers := by
  intro k
  induction k with
  | zero => exact fun s => ⟨s, rfl⟩
  | succ k ih =>
    intro s
    obtain ⟨u, hu⟩ := step_answers s
    obtain ⟨t, ht⟩ := ih u
    exact ⟨t, (run_succ hu k).trans ht⟩

theorem afterCommand_transmitted_of_not_tx {a : Agent} (ha : a ≠ .tx) (r : Request) (s : State) :
    (afterCommand a r s).host.transmitted = s.host.transmitted := by
  rw [afterCommand_transmitted, if_neg fun ⟨htx, _⟩ => ha htx]

/-- RX has no radio: its turn transmits nothing, whatever it issues. -/
theorem rxTurn_transmitted {h : HostServices} {s t : State} (hturn : rxTurn exec h s = .next t) :
    t.host.transmitted = s.host.transmitted := by
  have hrx := afterCommand_transmitted_of_not_tx (a := .rx) (by decide)
  rcases rxTurn_cases h s with ⟨r, hr⟩ | ⟨bytes, rest, hr⟩ | hr
  · cases Host.Outcome.next.inj (hturn.symm.trans hr)
    rw [uplinkEnd_eq]
    cases (uplinkOutcome h r).2.1 with
    | none => rfl
    | some i => exact hrx _ s
  · cases Host.Outcome.next.inj (hturn.symm.trans hr)
    exact hrx _ _
  · cases Host.Outcome.next.inj (hturn.symm.trans hr)
    rfl

/-- Settles O57: `deliver` transmits for an OK POLL of TX alone, whose word is the only one that decodes to POLL. -/
theorem txTransmitsWhatPollReturns : Obligations.TxTransmitsWhatPollReturns := by
  refine ⟨fun r s t hpoll hstep => ?_, fun r s t hpoll hstep => ?_, fun ev s t hev hstep => ?_⟩
  · obtain rfl := stepsBy_iff.mp hstep
    rw [afterCommand_transmitted, afterCommand_response]
    exact ⟨fun hok => if_pos ⟨rfl, eq_encode_of_decode hpoll, hok⟩,
      fun hfail => if_neg fun ⟨_, _, hok⟩ => hfail hok⟩
  · obtain rfl := stepsBy_iff.mp hstep
    rw [afterCommand_transmitted, if_neg fun ⟨_, hword, _⟩ => hpoll ((decode_ok_iff_eq_encode _ _).mpr hword)]
    rfl
  · cases ev with
    | command a r =>
      obtain rfl := stepsBy_iff.mp hstep
      exact afterCommand_transmitted_of_not_tx (fun ha => hev r (ha ▸ rfl)) r _
    | receive bytes => cases hstep; rfl
    | rxTurn => exact rxTurn_transmitted (s := s.withSchedule []) ((step_rxTurn s).symm.trans hstep)
    | reset => cases hstep; rfl

end Sys2Proof.Machine
end

section
/-! What the response to a command can carry (30_encoding.md R75, R76): its form for each command, from which the
statement about statuses and outputs is read off. -/

namespace Sys2Proof.Machine

/-! ### The responses of a command (R75, R76) -/

/-- The responses a command can answer with: a status alone, or OK with the outputs that its row of R77 gives it. -/
inductive AnswerOf (i : Instr) : Response → Prop where
  /-- a status, every other field at its default -/
  | status (st : Status) : AnswerOf i (Response.of st)
  /-- a value -/
  | value (v : U32) : i = .crc32 ∨ i = .readStatus → AnswerOf i { Response.of .ok with value := v }
  /-- a frame -/
  | frame (F : ByteString) : (∃ tag, i = .generate tag) ∨ i = .nextFrame ∨ i = .currentFrame ∨ i = .poll →
    AnswerOf i (frameResponse F)
  /-- the payload and the header fields of a parsed frame -/
  | parsed (P : ByteString) (topic tag : U16) : i = .parse →
    AnswerOf i { Response.of .ok with out := P, topic := topic, tag := tag }

section
variable {i : Instr} {b : Block}

theorem needData_answer {k : ByteString → Result} (h : ∀ B, AnswerOf i (k B).2) (data : Option ByteString) :
    AnswerOf i (needData data b k).2 := by
  cases data with
  | none => exact .status _
  | some B => exact h B

theorem needCap_answer {k : Nat → Result} (h : ∀ n, AnswerOf i (k n).2) (cap : Option Nat) :
    AnswerOf i (needCap cap b k).2 := by
  cases cap with
  | none => exact .status _
  | some n => exact h n

theorem ite_answer {P : Prop} [Decidable P] {p q : Result} (hp : AnswerOf i p.2) (hq : AnswerOf i q.2) :
    AnswerOf i (if P then p else q).2 := by
  split
  · exact hp
  · exact hq

theorem NoFrame.answer {p : Result} (h : NoFrame b p) : AnswerOf i p.2 := by
  obtain ⟨st, -, rfl⟩ := h
  exact .status st

end

theorem runGenerate_answer (c : Config) (tag : U16) (data : Option ByteString) (cap : Option Nat) (b : Block) :
    AnswerOf (.generate tag) (runGenerate c tag data cap b).2 :=
  needData_answer (fun _ => needCap_answer
    (fun _ => ite_answer (.status _) (ite_answer (.status _) (.frame _ (.inl ⟨tag, rfl⟩)))) cap) data

theorem runParse_answer (c : Config) (data : Option ByteString) (b : Block) :
    AnswerOf .parse (runParse c data b).2 :=
  needData_answer (fun _ => ite_answer (.status _) (ite_answer (.status _) (ite_answer (.status _)
    (ite_answer (.status _) (.parsed _ _ _ rfl))))) data

theorem runAddMessage_answer (c : Config) (tag : U16) (data : Option ByteString) (b : Block) :
    AnswerOf (.addMessage tag) (runAddMessage c tag data b).2 :=
  needData_answer (fun _ => ite_answer (.status _) (ite_answer (.status _) (.status _))) data

theorem runPoll_answer (c : Config) (cap : Option Nat) (b : Block) : AnswerOf .poll (runPoll c cap b).2 := by
  rcases runPoll_cases c cap b with hno | hemits
  · exact hno.answer
  · generalize runPoll c cap b = p at hemits
    cases hemits <;> exact .frame _ (.inr (.inr (.inr rfl)))

theorem commandResult_answer (c : Config) (i : Instr) (p : Port) (b : Block) :
    AnswerOf i (commandResult c i p b).2 := by
  cases i with
  | crc32 => exact needData_answer (fun _ => .value _ (.inl rfl)) p.data
  | generate tag => exact runGenerate_answer c tag p.data p.cap b
  | parse => exact runParse_answer c p.data b
  | addMessage tag => exact runAddMessage_answer c tag p.data b
  | nextFrame =>
    rcases runNextFrame_cases c p.cap b with hno | ⟨F, b', -, hr⟩
    · exact hno.answer
    · rw [commandResult, hr]
      exact .frame F (.inr (.inl rfl))
  | currentFrame =>
    rcases runCurrentFrame_cases p.cap b with hno | ⟨-, hr⟩
    · exact hno.answer
    · rw [commandResult, hr]
      exact .frame _ (.inr (.inr (.inl rfl)))
  | poll => exact runPoll_answer c p.cap b
  | nackReceived | ackTimeout => exact ite_answer (ite_answer (.status _) (.status _)) (.status _)
  | ackReceived | beginPass | beginFileTransfer | resumeTransmission | suspendElapsed | passElapsed =>
    exact ite_answer (.status _) (.status _)
  | ceaseTransmission =>
    rw [commandResult, runCeaseTransmission]
    split <;> exact .status _
  | sendAck | sendNack | resetSat => exact .status _
  | readStatus => exact .value _ (.inr rfl)

/-- The two codes of the host's steps are in no command's row (60_exceptions.md R216). -/
theorem host_statuses_not_mem (i : Instr) : .decryptFailed ∉ statusesOf i ∧ .unknownMessageTag ∉ statusesOf i := by
  cases i <;> simp [statusesOf]

/-- Settles O12: the status is of the command's row, and the other outputs are read off the form of the response. -/
theorem statusesOfEachCommand : Obligations.StatusesOfEachCommand := by
  intro i s t h
  rw [exec_eq_complete] at h
  cases h
  rw [State.complete_response]
  have hmem := commandResult_status_mem Config.chosen i s.port s.block
  have hanswer := commandResult_answer Config.chosen i s.port s.block
  obtain ⟨hdecrypt, hunknown⟩ := host_statuses_not_mem i
  refine ⟨hmem, fun hst => hdecrypt (hst ▸ hmem), fun hst => hunknown (hst ▸ hmem), ?_⟩
  generalize (commandResult Config.chosen i s.port s.block).2 = r at *
  cases hanswer with
  | status st => simp
  | value v hi => simp [hi]
  | frame F hi =>
    have hout : (∃ tag, i = .generate tag) ∨ i = .parse ∨ i = .nextFrame ∨ i = .currentFrame ∨ i = .poll :=
      hi.imp_right .inr
    simp [frameResponse, hout]
  | parsed P topic tag hi => simp [hi]

end Sys2Proof.Machine
end

section
/-! Which command writes which field of S (10_state.md R23 to R31, "Written by"), the commands that write none
(20_memory.md R58), and the bytes of the message store (R32). -/

namespace Sys2Proof.Machine

/-! ### The writers of each field -/

/-- The fields of S that differ after command `i` are fields of which 10_state.md names it a writer; the queue differs
by its own message at the tail, or by the head. -/
def WritesOwnFields (i : Instr) (p : Port) (b : Block) (q : Result) : Prop :=
  (q.1.state ≠ b.state →
    i ∈ [.beginPass, .beginFileTransfer, .ceaseTransmission, .resumeTransmission, .suspendElapsed, .passElapsed] ∨
    (i ∈ [.nackReceived, .ackTimeout] ∧ q.2.status = .retryExhausted)) ∧
  (q.1.prev ≠ b.prev → i = .ceaseTransmission) ∧
  (q.1.halted ≠ b.halted → i = .resetSat) ∧
  (q.1.retry ≠ b.retry → i ∈ [.ackReceived, .nackReceived, .ackTimeout, .beginFileTransfer, .passElapsed]) ∧
  (q.1.ctrlValid ≠ b.ctrlValid → i ∈ [.sendAck, .sendNack, .poll]) ∧
  (q.1.ctrlKind ≠ b.ctrlKind → i ∈ [.sendAck, .sendNack]) ∧
  (q.1.phase ≠ b.phase → i ∈ [.poll, .ackReceived, .nackReceived, .ackTimeout, .passElapsed]) ∧
  (q.1.queue ≠ b.queue →
    (∃ tag B, i = .addMessage tag ∧ p.data = some B ∧ q.1.queue = b.queue ++ [⟨tag, B⟩]) ∨
    (i ∈ [.nextFrame, .poll] ∧ ∃ m, b.queue = m :: q.1.queue)) ∧
  ((q.1.curValid, q.1.curTag, q.1.curBody, q.1.curOff) ≠ (b.curValid, b.curTag, b.curBody, b.curOff) →
    i ∈ [.nextFrame, .poll] ∨ (i ∈ [.nackReceived, .ackTimeout] ∧ q.2.status = .retryExhausted)) ∧
  ((q.1.retValid, q.1.retFrame) ≠ (b.retValid, b.retFrame) →
    i ∈ [.nextFrame, .poll] ∨ (i ∈ [.nackReceived, .ackTimeout] ∧ q.2.status = .retryExhausted))

section
variable {i : Instr} {p : Port} {b : Block}

theorem WritesOwnFields.of_block_eq {q : Result} (h : q.1 = b) : WritesOwnFields i p b q := by
  simp [WritesOwnFields, h]

/-- ENGINE_NEXT leaves the queue or pops its head (41_queue.md R134). -/
theorem engineNext_queue {c : Config} {b' : Block} {F : ByteString} (h : engineNext c b = some (F, b')) :
    b'.queue = b.queue ∨ ∃ m, b.queue = m :: b'.queue := by
  obtain ⟨m, off, rest, hsrc, -, rfl⟩ := engineNext_some h
  rw [Block.advanceCursor_queue]
  cases hv : b.curValid with
  | true =>
    rw [chunkSource_cursor hv] at hsrc
    cases hsrc
    exact .inl rfl
  | false =>
    cases hq : b.queue with
    | nil => rw [(chunkSource_none_iff b).mpr ⟨hv, hq⟩] at hsrc; cases hsrc
    | cons x xs =>
      rw [chunkSource_head hv hq] at hsrc
      cases hsrc
      exact .inr ⟨m, rfl⟩

/-- NEXT_FRAME and POLL take a new frame; POLL may set the phase as well. -/
theorem WritesOwnFields.of_engineNext {c : Config} {b' : Block} {F : ByteString} {ph : Phase}
    (he : engineNext c b = some (F, b')) (hi : i = .poll ∨ i = .nextFrame ∧ ph = b.phase) (r : Response) :
    WritesOwnFields i p b ({ b' with phase := ph }, r) := by
  obtain ⟨hstate, hprev, hhalted, hretry, hctrl, hkind, -, -, -⟩ := engineNext_frame he
  have hqueue : b'.queue ≠ b.queue → ∃ m, b.queue = m :: b'.queue := (engineNext_queue he).resolve_left
  rcases hi with rfl | ⟨rfl, rfl⟩ <;> simpa [WritesOwnFields, hstate, hprev, hhalted, hretry, hctrl, hkind] using hqueue

theorem runAddMessage_writes (c : Config) (tag : U16) :
    WritesOwnFields (.addMessage tag) p b (runAddMessage c tag p.data b) := by
  cases hdata : p.data with
  | none => exact .of_block_eq rfl
  | some B =>
    by_cases hfull : b.queue.length = c.queueDepth ∨ c.msgStoreBytes < used b + B.length
    · rw [runAddMessage_of_full c tag b hfull]
      exact .of_block_eq rfl
    · obtain ⟨hdepth, hstore⟩ := not_or.mp hfull
      rw [runAddMessage_of_room c tag b hdepth (Nat.le_of_not_lt hstore)]
      simp [WritesOwnFields, hdata]

theorem runNextFrame_writes (c : Config) (cap : Option Nat) :
    WritesOwnFields .nextFrame p b (runNextFrame c cap b) := by
  rcases runNextFrame_cases c cap b with hno | ⟨F, b', he, hr⟩
  · exact .of_block_eq hno.block_eq
  · obtain ⟨-, -, -, -, -, -, hphase, -, -⟩ := engineNext_frame he
    rw [hr]
    exact .of_engineNext (ph := b'.phase) he (.inr ⟨rfl, hphase⟩) _

theorem runPoll_writes (c : Config) (cap : Option Nat) : WritesOwnFields .poll p b (runPoll c cap b) := by
  rcases runPoll_cases c cap b with hno | hemits
  · exact .of_block_eq hno.block_eq
  · generalize runPoll c cap b = q at hemits
    cases hemits with
    | control => simp [WritesOwnFields]
    | resend => simp [WritesOwnFields]
    | new F b' _ _ _ _ he => exact .of_engineNext he (.inl rfl) _

theorem retryStep_writes (c : Config) (hi : i = .nackReceived ∨ i = .ackTimeout) :
    WritesOwnFields i p b (retryStep c b) := by
  rcases retryStep_cases c b with ⟨-, hr⟩ | ⟨-, -, hr⟩ | ⟨-, -, hr⟩
  · exact .of_block_eq (by rw [hr])
  · rw [hr]
    rcases hi with rfl | rfl <;> simp [WritesOwnFields, exhausted]
  · rw [hr]
    rcases hi with rfl | rfl <;> simp [WritesOwnFields]

theorem endSuspension_writes (hi : i = .resumeTransmission ∨ i = .suspendElapsed) :
    WritesOwnFields i p b (endSuspension b) := by
  rcases endSuspension_cases b with ⟨-, hr⟩ | ⟨-, hr⟩
  · rw [hr]
    rcases hi with rfl | rfl <;> simp [WritesOwnFields]
  · exact .of_block_eq (by rw [hr])

theorem runCeaseTransmission_writes : WritesOwnFields .ceaseTransmission p b (runCeaseTransmission b) := by
  unfold runCeaseTransmission
  split
  · simp [WritesOwnFields, respond]
  · simp [WritesOwnFields, respond]
  · exact .of_block_eq rfl
  · exact .of_block_eq rfl

theorem WritesOwnFields.ite {P : Prop} [Decidable P] {q q' : Result} (h : WritesOwnFields i p b q)
    (h' : WritesOwnFields i p b q') : WritesOwnFields i p b (if P then q else q') := by
  split
  · exact h
  · exact h'

theorem commandResult_writes (c : Config) (i : Instr) : WritesOwnFields i p b (commandResult c i p b) := by
  cases i with
  | crc32 => exact .of_block_eq (runCrc32_block p.data b)
  | generate tag => exact .of_block_eq (runGenerate_block c tag p.data p.cap b)
  | parse => exact .of_block_eq (runParse_block c p.data b)
  | addMessage tag => exact runAddMessage_writes c tag
  | nextFrame => exact runNextFrame_writes c p.cap
  | currentFrame => exact .of_block_eq runCurrentFrame_block
  | poll => exact runPoll_writes c p.cap
  | sendAck | sendNack | resetSat => simp [WritesOwnFields, commandResult, respond]
  | ackReceived | beginPass | beginFileTransfer =>
    exact .ite (by simp [WritesOwnFields, respond]) (.of_block_eq rfl)
  | passElapsed => exact .ite (.of_block_eq rfl) (by simp [WritesOwnFields, respond])
  | nackReceived => exact retryStep_writes c (.inl rfl)
  | ackTimeout => exact retryStep_writes c (.inr rfl)
  | ceaseTransmission => exact runCeaseTransmission_writes
  | resumeTransmission => exact endSuspension_writes (.inl rfl)
  | suspendElapsed => exact endSuspension_writes (.inr rfl)
  | readStatus => exact .of_block_eq rfl

end

/-- Settles O13: the fields by the command's result, the rest by the frame of every command. -/
theorem writersOfEachField : Obligations.WritersOfEachField := by
  intro i s t h
  have hframe := exec_frame h
  rw [exec_eq_complete] at h
  cases h
  obtain ⟨hstate, hprev, hhalted, hretry, hctrl, hkind, hphase, hqueue, hcur, hret⟩ :=
    commandResult_writes (p := s.port) (b := s.block) Config.chosen i
  exact ⟨hstate, hprev, hhalted, hretry, hctrl, hkind, hphase, hqueue, hcur, hret, hframe⟩

/-! ### The commands that write nothing (R58) -/

theorem commandResult_block_of_readOnly (c : Config) {i : Instr} (p : Port) (b : Block)
    (hi : i = .crc32 ∨ (∃ tag, i = .generate tag) ∨ i = .parse ∨ i = .currentFrame ∨ i = .readStatus) :
    (commandResult c i p b).1 = b := by
  rcases hi with rfl | ⟨tag, rfl⟩ | rfl | rfl | rfl
  · exact runCrc32_block p.data b
  · exact runGenerate_block c tag p.data p.cap b
  · exact runParse_block c p.data b
  · exact runCurrentFrame_block
  · rfl

/-- A command that leaves the block as it was does the same again: it does not read the response it left. -/
theorem exec_idempotent {i : Instr} {s t : State} (h : exec i s = .next t) (hblock : t.block = s.block) :
    exec i t = .next t := by
  rw [exec_eq_complete] at h ⊢
  cases h
  rw [State.complete_block] at hblock
  rw [State.complete_block, hblock, commandResult_congr Config.chosen i (p' := s.port) rfl rfl]
  rfl

/-- Settles O14: the five commands leave the block as it was, which makes them idempotent. -/
theorem readOnlyCommandsAreIdempotent : Obligations.ReadOnlyCommandsAreIdempotent := by
  intro i s t hi h
  have hblock : t.block = s.block := by
    have hnext := h
    rw [exec_eq_complete] at hnext
    cases hnext
    exact commandResult_block_of_readOnly Config.chosen s.port s.block hi
  exact ⟨hblock, exec_idempotent h hblock⟩

/-! ### The message store (R32) -/

/-- The bytes of what the next chunk is cut from and of the queue that remains are the bytes in use. -/
theorem chunkSource_used {b : Block} {m : Message} {off : Nat} {rest : List Message}
    (h : chunkSource b = some (m, off, rest)) :
    used b = (rest.map fun x => x.body.length).sum + m.body.length ∧
    ((b.curValid = true ∧ m.body = b.curBody) ∨ (b.curValid = false ∧ b.queue = m :: rest)) := by
  cases hv : b.curValid with
  | true =>
    rw [chunkSource_cursor hv] at h
    cases h
    exact ⟨by simp [used, hv], .inl ⟨rfl, rfl⟩⟩
  | false =>
    cases hq : b.queue with
    | nil => rw [(chunkSource_none_iff b).mpr ⟨hv, hq⟩] at h; cases h
    | cons x xs =>
      rw [chunkSource_head hv hq] at h
      cases h
      exact ⟨by simp [used, hv, hq, Nat.add_comm], .inr ⟨rfl, rfl⟩⟩

/-- ENGINE_NEXT frees a body exactly when it drops its cursor (R134). -/
theorem engineNext_used {c : Config} {b b' : Block} {F : ByteString} (h : engineNext c b = some (F, b')) :
    (b'.curValid = true → used b' = used b) ∧
    (b'.curValid = false →
      ∃ B, used b = used b' + B.length ∧
        ((b.curValid = true ∧ B = b.curBody) ∨ (b.curValid = false ∧ ∃ t q, b.queue = ⟨t, B⟩ :: q))) := by
  obtain ⟨m, off, rest, hsrc, -, rfl⟩ := engineNext_some h
  obtain ⟨hused, hfrom⟩ := chunkSource_used hsrc
  by_cases hend : off + min c.maxFrameSize (m.body.length - off) = m.body.length
  · rw [Block.advanceCursor_of_end hend]
    refine ⟨nofun, fun _ => ⟨m.body, by rw [hused]; rfl, hfrom.imp_right fun ⟨hv, hq⟩ => ⟨hv, m.tag, rest, hq⟩⟩⟩
  · rw [Block.advanceCursor_of_inside hend]
    exact ⟨fun _ => by rw [hused]; rfl, nofun⟩

theorem runAddMessage_used {c : Config} {tag : U16} {B : ByteString} {b : Block}
    (h : (runAddMessage c tag (some B) b).2.status = .ok) :
    used (runAddMessage c tag (some B) b).1 = used b + B.length := by
  by_cases hfull : b.queue.length = c.queueDepth ∨ c.msgStoreBytes < used b + B.length
  · rw [runAddMessage_of_full c tag b hfull] at h
    cases h
  · obtain ⟨hdepth, hstore⟩ := not_or.mp hfull
    rw [runAddMessage_of_room c tag b hdepth (Nat.le_of_not_lt hstore)]
    simp [used, Nat.add_comm, Nat.add_left_comm]

theorem used_exhausted (b : Block) :
    used (exhausted b) + (if b.curValid then b.curBody.length else 0) = used b := by
  simp [used, exhausted]

/-- Settles O30: ADD_MESSAGE's append, ENGINE_NEXT's chunk at the end of the body or inside it, and R165's block. -/
theorem storeAccounting : Obligations.StoreAccounting := by
  refine ⟨fun s t tag B hdata h hok => ?_, fun c b b' F => engineNext_used, fun i s t h hex => ?_⟩
  · rw [exec_eq_complete] at h
    cases h
    rw [State.complete_response, commandResult, hdata] at hok
    rw [State.complete_block, commandResult, hdata]
    exact runAddMessage_used hok
  · rw [exec_eq_complete] at h
    cases h
    rw [State.complete_block, commandResult_block_of_exhausted hex]
    exact used_exhausted s.block

end Sys2Proof.Machine
end

section
/-! WRAP's layout (00_scope.md R11), and the whole queue as ENGINE_NEXT yields it (41_queue.md R132, R138): NEXT_FRAME
commands drain it in order. -/

namespace Sys2Proof.Machine

/-- Settles O20: each field reads back at its offset. -/
theorem wrapLayout : Obligations.WrapLayout := fun c tag B =>
  ⟨rfl, wrap_length c tag B, rdLe32_wrap_preamble c tag B, rdLe32_wrap_checksum c tag B, rdLe16_wrap_topic c tag B,
    rdLe16_wrap_tag c tag B, payloadOf_wrap c tag B⟩

theorem Yields.append {c : Config} {b b₁ b₂ : Block} {Fs Gs : List ByteString} (h : Yields c b Fs b₁)
    (h' : Yields c b₁ Gs b₂) : Yields c b (Fs ++ Gs) b₂ := by
  induction h with
  | done b => exact h'
  | frame hnext _ ih => exact .frame hnext (ih h')

/-- With no cursor open, ENGINE_NEXT yields the frames of the whole queue, message after message, and leaves nothing. -/
theorem yields_queueFrames (c : Config) {b : Block} (hv : b.curValid = false) :
    ∃ b', Yields c b (queueFrames c b.queue) b' ∧ b'.curValid = false ∧ b'.queue = [] := by
  generalize hq : b.queue = q
  induction q generalizing b with
  | nil => exact ⟨b, .done b, hv, hq⟩
  | cons m rest ih =>
    obtain ⟨b₁, hhead, hv₁, hq₁⟩ := yields_messageFrames (c := c) hv hq
    obtain ⟨b', htail, hclosed⟩ := ih hv₁ hq₁
    exact ⟨b', hhead.append htail, hclosed⟩

theorem run_add {k : Nat} {s u : State} (h : Host.Core.run Sys2Proof.core k s = .next u) (j : Nat) :
    Host.Core.run Sys2Proof.core (k + j) s = Host.Core.run Sys2Proof.core j u := by
  induction k generalizing s with
  | zero =>
    cases h
    rw [Nat.zero_add]
  | succ k ih =>
    obtain ⟨v, hv⟩ := step_answers s
    rw [Nat.succ_add, run_succ hv]
    exact ih ((run_succ hv k).symm.trans h)

/-- Settles O28: as many NEXT_FRAME commands as ENGINE_NEXT yields frames for the queue, and one more, which finds
nothing. -/
theorem queueDrainsInOrder : Obligations.QueueDrainsInOrder := by
  intro s a n hv hn
  obtain ⟨b', hyields, hclosed, hempty⟩ := yields_queueFrames Config.chosen hv
  rw [List.replicate_succ']
  obtain ⟨t, hrun, rfl, hlater, hresponses⟩ := run_nextFrames hyields a hn
    [.command a (request .nextFrame none (some n))] (s := s.withSchedule (_ ++ _)) rfl rfl
  have hlast : requestResult (request .nextFrame none (some n)) t.block = (t.block, Response.of .empty) := by
    rw [requestResult_request]
    exact runNextFrame_of_none _ n ((engineNext_none_iff _ _).mpr ⟨hclosed, hempty⟩)
  refine ⟨_, (run_add hrun 1).trans (run_succ (step_command_eq hlater) 0), ?_, ?_, ?_⟩
  · rw [afterCommand_responses, State.withSchedule_block, hlast, State.withSchedule_responses, hresponses]
    rfl
  · rw [afterCommand_block, State.withSchedule_block, hlast]
    exact hclosed
  · rw [afterCommand_block, State.withSchedule_block, hlast]
    exact hempty

end Sys2Proof.Machine
end

section
/-! The stop-and-wait law (42_arbiter.md R168 by the rules with pseudocode): in phase AWAIT a POLL has no file-transfer
frame, and only what ends the wait leaves the phase. -/

namespace Sys2Proof.Machine

/-- A POLL that emits leaves a control response's phase alone, and any other frame's phase AWAIT (R150). -/
theorem PollEmits.phase {c : Config} {b : Block} {p : Result} (h : PollEmits c b p) :
    (b.ctrlValid = true ∧ p.1.phase = b.phase) ∨ (b.ctrlValid = false ∧ b.phase ≠ .await ∧ p.1.phase = .await) := by
  cases h with
  | control _ _ hv => exact .inl ⟨hv, rfl⟩
  | resend _ _ hv hp => exact .inr ⟨hv, by simp [hp], rfl⟩
  | new F b' _ _ hv hp => exact .inr ⟨hv, by simp [hp], rfl⟩

theorem runPoll_keeps_await {c : Config} {cap : Option Nat} {b : Block} (hb : b.phase = .await) :
    (runPoll c cap b).1.phase = .await := by
  rcases runPoll_cases c cap b with hno | hemits
  · rw [hno.block_eq, hb]
  · rcases hemits.phase with ⟨-, hp⟩ | ⟨-, -, hp⟩
    · exact hp.trans hb
    · exact hp

/-- Only a command that ends the wait leaves phase AWAIT: of the writers of S.phase, POLL sets AWAIT, and the others
answer IGNORED where they change nothing. -/
theorem commandResult_keeps_await {c : Config} {i : Instr} {p : Port} {b : Block} (hb : b.phase = .await)
    (hi : i ∈ [.ackReceived, .nackReceived, .ackTimeout, .passElapsed] → (commandResult c i p b).2.status = .ignored) :
    (commandResult c i p b).1.phase = .await := by
  obtain ⟨-, -, -, -, -, -, hphase, -⟩ := commandResult_writes (p := p) (b := b) c i
  by_cases hsame : (commandResult c i p b).1.phase = b.phase
  · exact hsame.trans hb
  · rcases List.mem_cons.mp (hphase hsame) with rfl | hwriter
    · exact runPoll_keeps_await hb
    · have hignored := hi hwriter
      rw [commandResult_keepsOnFailure c i p (by simp [hignored]) (by simp [hignored]), hb]

section
variable {a : Agent} {r : Request} {s t : State}

theorem stepsBy_poll (hd : decode r.word = .ok .poll) (h : StepsBy a r s t) :
    t.block = (runPoll Config.chosen r.cap s.block).1 ∧ t.port.response = (runPoll Config.chosen r.cap s.block).2 :=
  stepsBy_result hd h

/-- A POLL that emits a file-transfer frame found no wait and leaves one. -/
theorem phase_of_emitsFileFrame (h : StepsBy a r s t) (he : EmitsFileFrame s r t) :
    s.block.phase ≠ .await ∧ t.block.phase = .await := by
  obtain ⟨hd, hv, hok⟩ := he
  obtain ⟨hblock, hresponse⟩ := stepsBy_poll hd h
  rcases runPoll_cases Config.chosen r.cap s.block with hno | hemits
  · exact absurd (hresponse ▸ hok) hno.status_ne_ok
  · rw [hblock]
    rcases hemits.phase with ⟨hpending, -⟩ | ⟨-, hfound, hleft⟩
    · exact absurd (hpending.symm.trans hv) (by decide)
    · exact ⟨hfound, hleft⟩

theorem stepsBy_keeps_await (hs : s.block.phase = .await) (h : StepsBy a r s t) (hw : ¬ EndsWait s r t) :
    t.block.phase = .await := by
  rcases hd : decode r.word with e | i
  · rw [stepsBy_illegal_block hd h, hs]
  obtain ⟨hblock, hresponse⟩ := stepsBy_result hd h
  rw [hblock]
  refine commandResult_keeps_await hs fun hi => ?_
  by_contra hst
  refine hw ⟨?_, hresponse ▸ hst⟩
  rw [IsRetry, hd]
  simpa [or_assoc] using hi

theorem runsVia_keeps_await (hs : s.block.phase = .await) (h : RunsVia (fun x q y => ¬ EndsWait x q y) s t) :
    t.block.phase = .await := by
  induction h with
  | done s => exact hs
  | command a r s t u hstep hw _ ih => exact ih (stepsBy_keeps_await hs hstep hw)

end

/-- Settles O38: an emission leaves AWAIT, the commands in between keep it, and an emission does not start from it. -/
theorem stopAndWait : Obligations.StopAndWait := by
  refine ⟨fun a r s t h he => ?_, fun s u v a r hs hrun => ?_⟩
  · obtain ⟨-, hleft⟩ := phase_of_emitsFileFrame h he
    exact hleft
  · have hwait := runsVia_keeps_await hs hrun
    refine ⟨hwait, fun hstep he => ?_⟩
    obtain ⟨hfound, -⟩ := phase_of_emitsFileFrame hstep he
    exact hfound hwait

end Sys2Proof.Machine
end

section
/-! Runs of given commands: the commands of a schedule, each with the answer it gets, as the relation `Answers` on
blocks; and the hazards of 70_reset_and_hazards.md section 2 and the acknowledged stream as such runs. -/

namespace Sys2Proof.Machine

/-! ### Commands in a row with their answers -/

/-- A command of a schedule and the response it gets. -/
structure Answered where
  /-- who issues it -/
  agent : Agent
  /-- the command -/
  req : Request
  /-- the response to it -/
  response : Response

def Answered.event (x : Answered) : HostEvent := .command x.agent x.req

/-- What TX transmits for this command (60_exceptions.md R226). -/
def Answered.transmits (x : Answered) : Option ByteString :=
  if x.agent = .tx ∧ x.req.word = encode .poll ∧ x.response.status = .ok then some x.response.out else none

/-- The commands of the list, in order, get their responses from the first block on and leave the second. -/
inductive Answers : Block → List Answered → Block → Prop where
  /-- no command -/
  | done (b : Block) : Answers b [] b
  /-- one command, then the rest -/
  | command {b b₁ b' : Block} {r : Request} {resp : Response} {l : List Answered} (a : Agent) :
    requestResult r b = (b₁, resp) → Answers b₁ l b' → Answers b (⟨a, r, resp⟩ :: l) b'

theorem afterCommand_transmitted_eq_transmits {a : Agent} {r : Request} {s : State} {b : Block} {resp : Response}
    (h : requestResult r s.block = (b, resp)) :
    (afterCommand a r s).host.transmitted = (Answered.transmits ⟨a, r, resp⟩).toList ++ s.host.transmitted := by
  rw [afterCommand_transmitted, h, Answered.transmits]
  split <;> rfl

/-- The machine runs such a list, whatever is scheduled after it: block, responses, what TX transmits, and the last
response on the port. -/
theorem run_answers {s : State} {b' : Block} {l : List Answered} (h : Answers s.block l b') (later : List HostEvent) :
    ∃ t : State,
      Host.Core.run Sys2Proof.core l.length (s.withSchedule (l.map Answered.event ++ later)) = .next t ∧
      t.block = b' ∧ t.host.schedule = later ∧
      t.host.responses = (l.map fun x => (x.agent, x.response)).reverse ++ s.host.responses ∧
      t.host.transmitted = (l.filterMap Answered.transmits).reverse ++ s.host.transmitted ∧
      t.port.response = (l.getLast?.map Answered.response).getD s.port.response := by
  generalize hb : s.block = b at h
  induction h generalizing s with
  | done b => exact ⟨s.withSchedule later, rfl, hb, rfl, rfl, rfl, rfl⟩
  | @command b b₁ b' r resp l a hres _ ih =>
    rw [← hb] at hres
    obtain ⟨t, hrun, hblock, hlater, hresponses, htransmitted, hlast⟩ :=
      ih (s := afterCommand a r s) (by rw [afterCommand_block, hres])
    have hstep := step_scheduled a r s (l.map Answered.event ++ later)
    refine ⟨t, (run_succ hstep _).trans hrun, hblock, hlater, ?_, ?_, ?_⟩
    · rw [hresponses, afterCommand_responses, hres]
      simp
    · rw [htransmitted, afterCommand_transmitted_eq_transmits hres, List.filterMap_cons]
      cases Answered.transmits ⟨a, r, resp⟩ <;> simp
    · rw [hlast, afterCommand_response, hres, List.getLast?_cons]
      cases l.getLast? <;> rfl

/-! ### The results of the requests in these runs -/

section
variable {b : Block} {n : Nat}

theorem requestResult_poll : requestResult (request .poll none (some n)) b = runPoll Config.chosen (some n) b :=
  requestResult_request .poll none (some n) b

theorem requestResult_nextFrame :
    requestResult (request .nextFrame none (some n)) b = runNextFrame Config.chosen (some n) b :=
  requestResult_request .nextFrame none (some n) b

theorem requestResult_nackReceived :
    requestResult (request .nackReceived none none) b = retryStep Config.chosen b :=
  requestResult_request .nackReceived none none b

theorem requestResult_ackReceived : requestResult (request .ackReceived none none) b = runAckReceived b :=
  requestResult_request .ackReceived none none b

theorem requestResult_passElapsed : requestResult (request .passElapsed none none) b = runPassElapsed b :=
  requestResult_request .passElapsed none none b

theorem requestResult_beginPass : requestResult (request .beginPass none none) b = runBeginPass b :=
  requestResult_request .beginPass none none b

theorem requestResult_beginFileTransfer :
    requestResult (request .beginFileTransfer none none) b = runBeginFileTransfer b :=
  requestResult_request .beginFileTransfer none none b

/-- The two requests for a control response, which the later one wins (R155, R156). -/
theorem requestResult_control {i : Instr} (hi : i = .sendAck ∨ i = .sendNack) :
    requestResult (request i none none) b =
      ({ b with ctrlValid := true, ctrlKind := if i = .sendAck then .ack else .nack }, Response.of .ok) := by
  rw [requestResult_request]
  rcases hi with rfl | rfl <;> rfl

end

/-! ### The latest control request wins (R256) -/

/-- Settles O43: the second request overwrites the first, the first POLL emits it, and the second finds nothing. -/
theorem latestControlRequestWins : Obligations.LatestControlRequestWins := by
  intro s a₁ a₂ a₃ a₄ i₁ i₂ n hi₁ hi₂ hs hh hn
  have hcontact : inContact s.block.state = true := (inContact_iff _).mpr (.inl hs)
  generalize hk : (if i₂ = .sendAck then CtrlKind.ack else CtrlKind.nack) = k
  have hpoll := (runPoll_of_control Config.chosen n (b := { s.block with ctrlValid := true, ctrlKind := k }) hh hcontact
    rfl).trans (emit_of_fits ((ctrlFrame_length_le _ _).trans hn) _ _)
  have hnothing := runPoll_of_activePass Config.chosen n (b := { s.block with ctrlValid := false, ctrlKind := k }) hh hs
    rfl
  have hanswers : Answers s.block
      [⟨a₁, request i₁ none none, Response.of .ok⟩, ⟨a₂, request i₂ none none, Response.of .ok⟩,
        ⟨a₃, request .poll none (some n), frameResponse (ctrlFrame Config.chosen k)⟩,
        ⟨a₄, request .poll none (some n), Response.of .empty⟩] _ :=
    .command a₁ (requestResult_control hi₁) (.command a₂ (hk ▸ requestResult_control hi₂)
      (.command a₃ (requestResult_poll.trans hpoll) (.command a₄ (requestResult_poll.trans hnothing) (.done _))))
  obtain ⟨t, hrun, -, -, hresponses, -⟩ := run_answers hanswers []
  exact ⟨t, hrun, hresponses⟩

/-! ### NEXT_FRAME bypasses the arbiter (R253) -/

/-- Settles O44: NEXT_FRAME's frame is the retained one, which the NACK schedules again unless it exhausts. -/
theorem nextFrameBypassesArbiter : Obligations.NextFrameBypassesArbiter := by
  intro s a₁ a₂ a₃ n F b' hs hh hv hnext hn
  obtain ⟨hstate, -, hhalted, hretry, hctrl, -, -, hret, rfl⟩ := engineNext_frame hnext
  have hfits := (engineNext_frame_length hnext).trans hn
  have hnew := requestResult_nextFrame.trans (runNextFrame_of_fits Config.chosen hnext hfits)
  have hcontact : inContact b'.state = true := (inContact_iff _).mpr (.inr (hstate.trans hs))
  by_cases hceiling : Config.chosen.retryMax < s.block.retry.toNat + 1
  · have hanswers : Answers s.block
        [⟨a₁, request .nextFrame none (some n), frameResponse b'.retFrame⟩,
          ⟨a₂, request .nackReceived none none, Response.of .retryExhausted⟩,
          ⟨a₃, request .poll none (some n), Response.of .empty⟩] (exhausted b') :=
      .command a₁ hnew (.command a₂
        (requestResult_nackReceived.trans (retryStep_of_exhausted hcontact (hretry ▸ hceiling)))
        (.command a₃ (requestResult_poll.trans (runPoll_of_silent _ n (.inr rfl))) (.done _)))
    obtain ⟨t, hrun, -, -, hresponses, -⟩ := run_answers hanswers []
    exact ⟨t, hrun, by rw [if_pos hceiling]; exact hresponses⟩
  · have hnack := retryStep_of_allowed hcontact (hretry ▸ Nat.le_of_not_lt hceiling)
    rw [if_pos hret] at hnack
    have hresend := runPoll_of_resend_fits Config.chosen (b := { b' with retry := b'.retry + 1#8, phase := .resend })
      (hhalted.trans hh) (hstate.trans hs) (hctrl.trans hv) rfl hfits
    have hanswers : Answers s.block
        [⟨a₁, request .nextFrame none (some n), frameResponse b'.retFrame⟩,
          ⟨a₂, request .nackReceived none none, Response.of .ok⟩,
          ⟨a₃, request .poll none (some n), frameResponse b'.retFrame⟩]
        { b' with retry := b'.retry + 1#8, phase := .await } :=
      .command a₁ hnew (.command a₂ (requestResult_nackReceived.trans hnack)
        (.command a₃ (requestResult_poll.trans hresend) (.done _)))
    obtain ⟨t, hrun, hblock, -, hresponses, -⟩ := run_answers hanswers []
    exact ⟨t, hrun, by rw [if_neg hceiling, hblock]; exact ⟨hresponses, rfl, rfl, rfl, rfl⟩⟩

/-! ### Pass expiry loses the frame in flight (R255) -/

/-- The frame that ENGINE_NEXT yields is decided by the cursor and the queue (R134). -/
theorem engineNext_of_chunkSource_eq {c : Config} {b b₁ b' : Block} {F : ByteString}
    (h : engineNext c b = some (F, b')) (hsrc : chunkSource b₁ = chunkSource b) :
    ∃ b₁', engineNext c b₁ = some (F, b₁') := by
  obtain ⟨m, off, rest, hfrom, rfl, -⟩ := engineNext_some h
  exact ⟨_, engineNext_of_source c (hsrc.trans hfrom)⟩

/-- A new pass and a new file transfer after PASS_ELAPSED find the phase READY and the old frame retained. -/
theorem answers_new_transfer (a : Agent) {b : Block} (hs : b.state ≠ .idle) :
    Answers b
      [⟨a, request .passElapsed none none, Response.of .ok⟩, ⟨a, request .beginPass none none, Response.of .ok⟩,
        ⟨a, request .beginFileTransfer none none, Response.of .ok⟩]
      { b with state := .fileTransferActive, retry := 0#8, phase := .ready } :=
  .command a (requestResult_passElapsed.trans (runPassElapsed_of_ne_idle hs))
    (.command a (requestResult_beginPass.trans (runBeginPass_of_idle rfl))
      (.command a (requestResult_beginFileTransfer.trans (runBeginFileTransfer_of_activePass rfl)) (.done _)))

/-- A NACK_RECEIVED before the new file transfer asks for the old frame again, unless the ceiling is 0. -/
theorem answers_nack_in_new_pass (a : Agent) {b : Block} {n : Nat} (hs : b.state ≠ .idle) (hh : b.halted = false)
    (hv : b.ctrlValid = false) (hret : b.retValid = true) (hn : b.retFrame.length ≤ n) :
    ∃ st st' b', Answers b
      [⟨a, request .passElapsed none none, Response.of .ok⟩, ⟨a, request .beginPass none none, Response.of .ok⟩,
        ⟨a, request .nackReceived none none, Response.of st⟩,
        ⟨a, request .beginFileTransfer none none, Response.of st'⟩,
        ⟨a, request .poll none (some n),
          if Config.chosen.retryMax = 0 then Response.of .empty else frameResponse b.retFrame⟩] b' := by
  by_cases hmax : Config.chosen.retryMax = 0
  · rw [if_pos hmax]
    exact ⟨_, _, _, .command a (requestResult_passElapsed.trans (runPassElapsed_of_ne_idle hs))
      (.command a (requestResult_beginPass.trans (runBeginPass_of_idle rfl))
        (.command a (requestResult_nackReceived.trans (retryStep_of_exhausted rfl (by rw [hmax]; exact Nat.one_pos)))
          (.command a (requestResult_beginFileTransfer.trans (runBeginFileTransfer_of_ne_activePass nofun))
            (.command a (requestResult_poll.trans (runPoll_of_silent _ n (.inr rfl))) (.done _)))))⟩
  · have hnack := retryStep_of_allowed (c := Config.chosen)
      (b := { b with state := .activePass, retry := 0#8, phase := .ready }) rfl (Nat.one_le_iff_ne_zero.mpr hmax)
    rw [if_pos hret] at hnack
    have hresend := runPoll_of_resend_fits Config.chosen
      (b := { b with state := .fileTransferActive, retry := 0#8, phase := .resend }) hh rfl hv rfl hn
    rw [if_neg hmax]
    exact ⟨_, _, _, .command a (requestResult_passElapsed.trans (runPassElapsed_of_ne_idle hs))
      (.command a (requestResult_beginPass.trans (runBeginPass_of_idle rfl))
        (.command a (requestResult_nackReceived.trans hnack)
          (.command a (requestResult_beginFileTransfer.trans (runBeginFileTransfer_of_activePass rfl))
            (.command a (requestResult_poll.trans hresend) (.done _)))))⟩

/-- Settles O45: without a NACK the phase stays READY and POLL takes the next chunk; with one it is RESEND and POLL
sends the old frame again. -/
theorem passExpiryLosesFrameInFlight : Obligations.PassExpiryLosesFrameInFlight := by
  intro s a n hs hp hh hv hret hn hlen
  have hactive : s.block.state ≠ .idle := by rw [hs]; decide
  refine ⟨fun F b' hnext => ?_, ?_⟩
  · obtain ⟨t, hrun, hblock, hlater, -⟩ := run_answers (answers_new_transfer a hactive)
      [.command a (request .poll none (some n))]
    obtain ⟨b₁, hnext₁⟩ := engineNext_of_chunkSource_eq hnext
      (b₁ := { s.block with state := .fileTransferActive, retry := 0#8, phase := .ready }) rfl
    have hpoll := requestResult_poll.trans ((runPoll_of_fileTransferActive Config.chosen n
      (b := { s.block with state := .fileTransferActive, retry := 0#8, phase := .ready }) hh rfl hv).trans
      ((pollFile_of_ready_of_some _ n rfl hnext₁).trans
        (emit_of_fits ((engineNext_frame_length hnext).trans hn) _ _)))
    refine ⟨t, _, hrun, by rw [hblock], by rw [hblock]; exact hret, by rw [hblock], step_command_eq hlater, ?_⟩
    rw [afterCommand_response, State.withSchedule_block, hblock, hpoll]
  · obtain ⟨_, _, _, hanswers⟩ := answers_nack_in_new_pass a hactive hh hv hret hlen
    obtain ⟨t, hrun, -, -, -, -, hlast⟩ := run_answers hanswers []
    exact ⟨t, hrun, hlast⟩

/-! ### The acknowledged stream (R150, R160) -/

/-- A POLL by TX that sends a frame, and the acknowledgment of it. -/
def pollThenAck (a : Agent) (n : Nat) (F : ByteString) : List Answered :=
  [⟨.tx, request .poll none (some n), frameResponse F⟩, ⟨a, request .ackReceived none none, Response.of .ok⟩]

/-- An acknowledged POLL does to the block what ENGINE_NEXT does: AWAIT is left again. -/
theorem yields_answers {b b' : Block} {Fs : List ByteString} (h : Yields Config.chosen b Fs b') (a : Agent) {n : Nat}
    (hn : headerSize + Config.chosen.maxFrameSize ≤ n) (hs : b.state = .fileTransferActive) (hh : b.halted = false)
    (hv : b.ctrlValid = false) (hp : b.phase = .ready) (hr : b.retry = 0#8) :
    Answers b (Fs.flatMap (pollThenAck a n)) b' ∧ b'.phase = .ready ∧ b'.retry = 0#8 ∧
      b'.state = .fileTransferActive := by
  induction h with
  | done b => exact ⟨.done b, hp, hr, hs⟩
  | @frame b b₁ b' F Fs hnext _ ih =>
    obtain ⟨hstate, -, hhalted, hretry, hctrl, -, hphase, -, -⟩ := engineNext_frame hnext
    rw [← hstate] at hs
    rw [← hretry] at hr
    rw [← hphase] at hp
    obtain ⟨hrest, hkept⟩ := ih hs (hhalted.trans hh) (hctrl.trans hv) hp hr
    have hpoll := (runPoll_of_fileTransferActive Config.chosen n hh (hstate ▸ hs) hv).trans
      ((pollFile_of_ready_of_some _ n (hphase ▸ hp) hnext).trans
        (emit_of_fits ((engineNext_frame_length hnext).trans hn) _ _))
    have hack := runAckReceived_of_contact (b := { b₁ with phase := .await }) ((inContact_iff _).mpr (.inr hs))
    have hback : ({ b₁ with phase := .ready, retry := 0#8 } : Block) = b₁ := by rw [← hp, ← hr]
    rw [List.flatMap_cons]
    refine ⟨.command .tx (requestResult_poll.trans hpoll) (.command a (requestResult_ackReceived.trans hack) ?_), hkept⟩
    rw [hback]
    exact hrest

section
variable (a : Agent) (n : Nat) (Fs : List ByteString)

theorem pollThenAck_length : (Fs.flatMap (pollThenAck a n)).length = 2 * Fs.length := by
  simp [pollThenAck, Nat.mul_comm]

theorem pollThenAck_events : (Fs.flatMap (pollThenAck a n)).map Answered.event =
    Fs.flatMap fun _ =>
      [.command .tx (request .poll none (some n)), .command a (request .ackReceived none none)] := by
  rw [List.map_flatMap]
  rfl

/-- TX transmits the frames of the POLLs and nothing for the acknowledgments, even where TX issues them. -/
theorem pollThenAck_transmits : (Fs.flatMap (pollThenAck a n)).filterMap Answered.transmits = Fs := by
  have hword : encode .ackReceived ≠ encode .poll := by decide
  have hpair : ∀ F, (pollThenAck a n F).filterMap Answered.transmits = [F] := fun F => by
    simp [pollThenAck, Answered.transmits, request, frameResponse, hword]
  induction Fs with
  | nil => rfl
  | cons F Fs ih => rw [List.flatMap_cons, List.filterMap_append, hpair, ih, List.singleton_append]

end

/-- Settles O46: ENGINE_NEXT yields the frames of the queue, and each acknowledged POLL is one ENGINE_NEXT. -/
theorem acknowledgedStreamDeliversQueue : Obligations.AcknowledgedStreamDeliversQueue := by
  intro s a n hs hh hv hp hr hcur hn
  obtain ⟨b', hyields, hclosed, hempty⟩ := yields_queueFrames Config.chosen hcur
  obtain ⟨hanswers, hphase, hretry, hstate⟩ := yields_answers hyields a hn hs hh hv hp hr
  obtain ⟨t, hrun, rfl, -, -, htransmitted, -⟩ := run_answers hanswers []
  rw [pollThenAck_length, pollThenAck_events, List.append_nil] at hrun
  rw [pollThenAck_transmits] at htransmitted
  exact ⟨t, hrun, htransmitted, hempty, hclosed, hphase, hretry, hstate⟩

end Sys2Proof.Machine
end

section
/-! The retry ceiling (42_arbiter.md R164; 70_reset_and_hazards.md R259): a retry command by RETRY_STEP, every other
command by the fields it does not write, and the bounds on retransmissions by a credit that each one uses up. -/

namespace Sys2Proof.Machine

/-! ### One command -/

theorem isRetry_iff (r : Request) : IsRetry r ↔ r.word = encode .nackReceived ∨ r.word = encode .ackTimeout := by
  rw [IsRetry, decode_ok_iff_eq_encode, decode_ok_iff_eq_encode]

theorem stepsBy_requestResult {a : Agent} {r : Request} {s t : State} (h : StepsBy a r s t) :
    t.block = (requestResult r s.block).1 ∧ t.port.response = (requestResult r s.block).2 := by
  obtain rfl := stepsBy_iff.mp h
  exact ⟨rfl, rfl⟩

section
variable {r : Request} {b : Block}

theorem requestResult_of_isRetry (h : IsRetry r) : requestResult r b = retryStep Config.chosen b := by
  rcases h with hd | hd
  · exact requestResult_legal hd b
  · exact requestResult_legal hd b

/-- A command that neither retries nor clears the counter leaves it, reports no exhaustion and does not enter RESEND. -/
theorem requestResult_of_not_isRetry (h : ¬ IsRetry r) (hc : Consecutive r.word) :
    (requestResult r b).2.status ≠ .retryExhausted ∧ (requestResult r b).1.retry = b.retry ∧
    ((requestResult r b).1.phase = .resend → b.phase = .resend) := by
  rcases hd : decode r.word with e | i
  · rw [requestResult_illegal hd]
    exact ⟨by simp, rfl, id⟩
  obtain ⟨hack, hfile, hpass⟩ := hc
  rw [IsRetry] at h
  simp only [hd, Except.ok.injEq, not_or, ne_eq] at h hack hfile hpass
  obtain ⟨hnack, htimeout⟩ := h
  obtain ⟨-, -, -, hretry, -, -, hphase, -⟩ := commandResult_writes (p := r.port) (b := b) Config.chosen i
  rw [requestResult_legal hd]
  refine ⟨fun hex => ?_, ?_, fun hresend => ?_⟩
  · obtain ⟨hi, -⟩ := commandResult_of_exhausted hex
    exact hi.elim hnack htimeout
  · by_contra hne
    simpa [hack, hnack, htimeout, hfile, hpass] using hretry hne
  · by_contra hne
    have hchanged : (commandResult Config.chosen i r.port b).1.phase ≠ b.phase := fun heq => hne (heq ▸ hresend)
    have hpoll : i = .poll := by simpa [hack, hnack, htimeout, hpass] using hphase hchanged
    subst hpoll
    rcases runPoll_cases Config.chosen r.cap b with hno | hemits
    · exact hchanged (congrArg Block.phase hno.block_eq)
    · rcases hemits.phase with ⟨-, hkept⟩ | ⟨-, -, hawait⟩
      · exact hchanged hkept
      · exact absurd (hresend.symm.trans hawait) (by decide)

theorem retry_add_one_toNat {c : Config} {x : BitVec 8} (h : x.toNat + 1 ≤ c.retryMax) :
    (x + 1#8).toNat = x.toNat + 1 := by
  have hmax := c.retryMax_le
  rw [BitVec.toNat_add]
  exact Nat.mod_eq_of_lt (by simp; omega)

/-- RETRY_STEP, said of the counter and the status alone. -/
theorem retryStep_counter (c : Config) (b : Block) :
    ((retryStep c b).2.status = .ok ∧ b.retry.toNat + 1 ≤ c.retryMax ∧
      (retryStep c b).1.retry.toNat = b.retry.toNat + 1) ∨
    ((retryStep c b).2.status = .retryExhausted ∧ (retryStep c b).1 = exhausted b) ∨
    ((retryStep c b).2.status = .ignored ∧ (retryStep c b).1 = b) := by
  cases hc : inContact b.state with
  | false => exact .inr (.inr (by rw [retryStep_of_no_contact hc]; exact ⟨rfl, rfl⟩))
  | true =>
    by_cases hn : b.retry.toNat + 1 ≤ c.retryMax
    · exact .inl (by rw [retryStep_of_allowed hc hn]; exact ⟨rfl, hn, retry_add_one_toNat hn⟩)
    · exact .inr (.inl (by rw [retryStep_of_exhausted hc (by omega)]; exact ⟨rfl, rfl⟩))

end

/-! ### Where no retransmission can come from -/

/-- Not in a file transfer, and no suspension leads back into one. Only BEGIN_FILE_TRANSFER leaves such a block. -/
def Block.outOfTransfer (b : Block) : Bool :=
  match b.state, b.prev with
  | .idle, _ | .activePass, _ | .suspended, .activePass => true
  | .fileTransferActive, _ | .suspended, .fileTransferActive => false

theorem outOfTransfer_congr {b b' : Block} (hs : b'.state = b.state) (hp : b'.prev = b.prev) :
    b'.outOfTransfer = b.outOfTransfer := by
  rw [Block.outOfTransfer, Block.outOfTransfer, hs, hp]

theorem endSuspension_outOfTransfer {b : Block} (h : b.outOfTransfer = true) :
    (endSuspension b).1.outOfTransfer = true := by
  rcases endSuspension_cases b with ⟨hs, hr⟩ | ⟨-, hr⟩
  · rw [hr]
    cases hp : b.prev with
    | activePass => simp [Block.outOfTransfer, PrevActive.toLifecycle]
    | fileTransferActive => simp [Block.outOfTransfer, hs, hp] at h
  · rw [hr, h]

theorem runCeaseTransmission_outOfTransfer {b : Block} (h : b.outOfTransfer = true) :
    (runCeaseTransmission b).1.outOfTransfer = true := by
  cases hs : b.state with
  | idle | suspended => rw [runCeaseTransmission_of_no_contact (by rw [hs]; rfl), h]
  | activePass => rw [runCeaseTransmission_of_active (p := .activePass) hs]; rfl
  | fileTransferActive => simp [Block.outOfTransfer, hs] at h

theorem commandResult_outOfTransfer {c : Config} {i : Instr} {p : Port} {b : Block} (hi : i ≠ .beginFileTransfer)
    (h : b.outOfTransfer = true) : (commandResult c i p b).1.outOfTransfer = true := by
  obtain ⟨hstate, hprev, -⟩ := commandResult_writes (p := p) (b := b) c i
  cases i with
  | beginFileTransfer => exact absurd rfl hi
  | beginPass => rw [commandResult, runBeginPass]; split; exacts [rfl, h]
  | passElapsed => rw [commandResult, runPassElapsed]; split; exacts [h, rfl]
  | ceaseTransmission => exact runCeaseTransmission_outOfTransfer h
  | resumeTransmission | suspendElapsed => exact endSuspension_outOfTransfer h
  | nackReceived | ackTimeout =>
    rcases retryStep_cases c b with ⟨-, hr⟩ | ⟨-, -, hr⟩ | ⟨-, -, hr⟩
    · rw [commandResult, hr, h]
    · rw [commandResult, hr]; rfl
    · rw [commandResult, hr]; exact h
  | _ =>
    rw [outOfTransfer_congr (by simpa using hstate) (by simpa using hprev), h]

theorem requestResult_outOfTransfer {r : Request} {b : Block} (hr : decode r.word ≠ .ok .beginFileTransfer)
    (h : b.outOfTransfer = true) : (requestResult r b).1.outOfTransfer = true := by
  rcases hd : decode r.word with e | i
  · rw [requestResult_illegal hd, h]
  · rw [requestResult_legal hd]
    exact commandResult_outOfTransfer (fun hi => hr (hi ▸ hd)) h

/-! ### The credit of retransmissions -/

/-- 1 where a retransmission is due, else 0. -/
def Block.due (b : Block) : Nat := if b.phase = .resend then 1 else 0

/-- The retransmissions that the ceiling still allows. -/
def Block.credit (c : Config) (b : Block) : Nat :=
  if b.outOfTransfer then 0 else (c.retryMax - b.retry.toNat) + b.due

theorem Block.due_le_one (b : Block) : b.due ≤ 1 := by
  unfold Block.due
  split <;> omega

theorem Block.due_le_of_imp {b b' : Block} (h : b'.phase = .resend → b.phase = .resend) : b'.due ≤ b.due := by
  unfold Block.due
  by_cases hp : b'.phase = .resend
  · rw [if_pos hp, if_pos (h hp)]
  · rw [if_neg hp]
    exact Nat.zero_le _

/-- A retransmission takes place in a file transfer and uses up the one that was due. -/
theorem retransmits_spec {a : Agent} {r : Request} {s t : State} (h : StepsBy a r s t)
    (hx : Exchange.retransmits ⟨s, r, t⟩ = true) :
    ¬ IsRetry r ∧ s.block.outOfTransfer = false ∧ s.block.due = 1 ∧ t.block.due = 0 := by
  obtain ⟨hword, hv, hp, hok⟩ := (Exchange.retransmits_iff _).mp hx
  have hd : decode r.word = .ok .poll := (decode_ok_iff_eq_encode _ _).mpr hword
  obtain ⟨hblock, hresponse⟩ := stepsBy_poll hd h
  refine ⟨by simp [IsRetry, hd], ?_, if_pos hp, if_neg ?_⟩
  · rcases runPoll_cases Config.chosen r.cap s.block with hno | hemits
    · exact absurd (hresponse ▸ hok) hno.status_ne_ok
    · generalize runPoll Config.chosen r.cap s.block = p at hemits
      cases hemits with
      | control _ _ hpending => exact absurd (hpending.symm.trans hv) (by decide)
      | resend _ hs => simp [Block.outOfTransfer, hs]
      | new _ _ _ _ _ hready => exact absurd (hready.symm.trans hp) (by decide)
  · obtain ⟨-, hawait⟩ := phase_of_emitsFileFrame h ⟨hd, hv, hok⟩
    rw [hawait]
    decide

/-- What one command of a consecutive run does: a retry counts and may make a retransmission due, exhaustion ends the
transfer, and any other command at most uses up what is due. -/
theorem exchange_cases {a : Agent} {r : Request} {s t : State} (h : StepsBy a r s t) (hc : Consecutive r.word) :
    (Exchange.retries ⟨s, r, t⟩ = true ∧ Exchange.retransmits ⟨s, r, t⟩ = false ∧
      t.port.response.status ≠ .retryExhausted ∧ s.block.retry.toNat + 1 ≤ Config.chosen.retryMax ∧
      t.block.retry.toNat = s.block.retry.toNat + 1) ∨
    (Exchange.retries ⟨s, r, t⟩ = false ∧ Exchange.retransmits ⟨s, r, t⟩ = false ∧
      t.port.response.status = .retryExhausted ∧ t.block = exhausted s.block) ∨
    (Exchange.retries ⟨s, r, t⟩ = false ∧ t.port.response.status ≠ .retryExhausted ∧
      t.block.retry = s.block.retry ∧
      t.block.due + (if Exchange.retransmits ⟨s, r, t⟩ then 1 else 0) ≤ s.block.due) := by
  obtain ⟨hblock, hresponse⟩ := stepsBy_requestResult h
  have hretries := Exchange.retries_iff ⟨s, r, t⟩
  simp only [← isRetry_iff] at hretries
  by_cases hretry : IsRetry r
  · have hno : Exchange.retransmits ⟨s, r, t⟩ = false := by
      refine Bool.eq_false_iff.mpr fun hx => ?_
      obtain ⟨hnot, -⟩ := retransmits_spec h hx
      exact hnot hretry
    rw [requestResult_of_isRetry hretry] at hblock hresponse
    rcases retryStep_counter Config.chosen s.block with ⟨hok, hn, hcount⟩ | ⟨hex, hb⟩ | ⟨hignored, hb⟩
    · exact .inl ⟨hretries.mpr ⟨hretry, hresponse ▸ hok⟩, hno, by simp [hresponse, hok], hn, hblock ▸ hcount⟩
    · refine .inr (.inl ⟨?_, hno, hresponse ▸ hex, hblock.trans hb⟩)
      simp [← Bool.not_eq_true, hretries, hresponse, hex]
    · refine .inr (.inr ⟨?_, by simp [hresponse, hignored], by rw [hblock, hb], by simp [hblock, hb, hno]⟩)
      simp [← Bool.not_eq_true, hretries, hresponse, hignored]
  · obtain ⟨hex, hcount, hdue⟩ := requestResult_of_not_isRetry (b := s.block) hretry hc
    refine .inr (.inr ⟨by simp [← Bool.not_eq_true, hretries, hretry], hresponse ▸ hex, by rw [hblock, hcount], ?_⟩)
    cases hx : Exchange.retransmits ⟨s, r, t⟩ with
    | true =>
      obtain ⟨-, -, hone, hzero⟩ := retransmits_spec h hx
      simp [hone, hzero]
    | false =>
      rw [← hblock] at hdue
      simpa using Block.due_le_of_imp hdue

theorem credit_exhausted (c : Config) (b : Block) : (exhausted b).credit c = 0 := rfl

theorem credit_of_outOfTransfer {c : Config} {b : Block} (h : b.outOfTransfer = true) : b.credit c = 0 := if_pos h

/-- A retransmission costs one of the credit, and no command of a consecutive run raises it. -/
theorem credit_step {a : Agent} {r : Request} {s t : State} (h : StepsBy a r s t) (hc : Consecutive r.word) :
    t.block.credit Config.chosen + (if Exchange.retransmits ⟨s, r, t⟩ then 1 else 0) ≤
      s.block.credit Config.chosen := by
  obtain ⟨hblock, -⟩ := stepsBy_requestResult h
  have ⟨_, hfile, _⟩ := hc
  cases hout : s.block.outOfTransfer with
  | true =>
    have hout' : t.block.outOfTransfer = true := hblock ▸ requestResult_outOfTransfer hfile hout
    have hno : ¬ Exchange.retransmits ⟨s, r, t⟩ = true := fun hx => by
      obtain ⟨-, hin, -⟩ := retransmits_spec h hx
      exact absurd (hout.symm.trans hin) (by decide)
    rw [credit_of_outOfTransfer hout', if_neg hno]
    exact Nat.zero_le _
  | false =>
    have hcredit : s.block.credit Config.chosen =
        (Config.chosen.retryMax - s.block.retry.toNat) + s.block.due := by simp [Block.credit, hout]
    have hle : t.block.credit Config.chosen ≤ (Config.chosen.retryMax - t.block.retry.toNat) + t.block.due := by
      unfold Block.credit
      split <;> omega
    rcases exchange_cases h hc with ⟨-, hno, -, hn, hcount⟩ | ⟨-, hno, -, hex⟩ | ⟨-, -, hcount, hdue⟩
    · have hone := t.block.due_le_one
      simp only [hno, Bool.false_eq_true, if_false]
      omega
    · simp [hno, hex, credit_exhausted]
    · rw [hcount] at hle
      omega

/-! ### A run of commands -/

section
variable {s u : State} {l : List Exchange}

theorem runsBy_retransmits_le_retries (h : RunsBy l s u) (hc : ∀ x ∈ l, Consecutive x.req.word) :
    u.block.due + l.countP Exchange.retransmits ≤ l.countP Exchange.retries + s.block.due := by
  induction h with
  | done s => simp
  | command a r s t u l hstep _ ih =>
    obtain ⟨hr, hl⟩ := List.forall_mem_cons.mp hc
    have hrest := ih hl
    have hone := t.block.due_le_one
    rw [List.countP_cons, List.countP_cons]
    rcases exchange_cases hstep hr with ⟨hyes, hno, -⟩ | ⟨hno', hno, -, hex⟩ | ⟨hno', -, -, hdue⟩
    · simp only [hyes, hno, Bool.false_eq_true, if_true, if_false]
      omega
    · have hzero : t.block.due = 0 := by rw [hex]; rfl
      simp only [hno', hno, Bool.false_eq_true, if_false]
      omega
    · simp only [hno', Bool.false_eq_true, if_false]
      omega

theorem runsBy_retransmits_le_credit (h : RunsBy l s u) (hc : ∀ x ∈ l, Consecutive x.req.word) :
    u.block.credit Config.chosen + l.countP Exchange.retransmits ≤ s.block.credit Config.chosen := by
  induction h with
  | done s => simp
  | command a r s t u l hstep _ ih =>
    obtain ⟨hr, hl⟩ := List.forall_mem_cons.mp hc
    have hrest := ih hl
    have hcost := credit_step hstep hr
    rw [List.countP_cons]
    omega

theorem runsBy_counts_retries (h : RunsBy l s u) (hc : ∀ x ∈ l, Consecutive x.req.word)
    (hex : ∀ x ∈ l, x.left.port.response.status ≠ .retryExhausted) :
    u.block.retry.toNat = s.block.retry.toNat + l.countP Exchange.retries := by
  induction h with
  | done s => simp
  | command a r s t u l hstep _ ih =>
    obtain ⟨hr, hl⟩ := List.forall_mem_cons.mp hc
    obtain ⟨hx, hxs⟩ := List.forall_mem_cons.mp hex
    rw [ih hl hxs, List.countP_cons]
    rcases exchange_cases hstep hr with ⟨hyes, -, -, -, hcount⟩ | ⟨-, -, hexhausted, -⟩ | ⟨hno, -, hcount, -⟩
    · simp only [hcount, hyes, if_true]
      omega
    · exact absurd hexhausted hx
    · simp only [hcount, hno, Bool.false_eq_true, if_false]
      omega

end

/-! ### Retries below the ceiling -/

/-- In contact, a command that is no retry and leaves no active state by its name leaves the state as it was. -/
theorem requestResult_state_of_not_isRetry {r : Request} {b : Block} (h : ¬ IsRetry r) (hc : Consecutive r.word)
    (hcease : decode r.word ≠ .ok .ceaseTransmission) (hs : inContact b.state = true) :
    (requestResult r b).1.state = b.state := by
  rcases hd : decode r.word with e | i
  · rw [requestResult_illegal hd]
  obtain ⟨-, hfile, hpass⟩ := hc
  rw [IsRetry] at h
  simp only [hd, Except.ok.injEq, not_or, ne_eq] at h hfile hpass hcease
  obtain ⟨hnack, htimeout⟩ := h
  obtain ⟨hstate, -⟩ := commandResult_writes (p := r.port) (b := b) Config.chosen i
  rw [requestResult_legal hd]
  by_contra hne
  have hi : i = .beginPass ∨ i = .resumeTransmission ∨ i = .suspendElapsed := by
    simpa [hnack, htimeout, hfile, hpass, hcease] using hstate hne
  rcases hi with rfl | rfl | rfl
  · exact hne (congrArg (fun p : Result => p.1.state) (runBeginPass_of_ne_idle (ne_idle_of_inContact hs)))
  · exact hne (congrArg (fun p : Result => p.1.state) (endSuspension_of_ne_suspended (ne_suspended_of_inContact hs)))
  · exact hne (congrArg (fun p : Result => p.1.state) (endSuspension_of_ne_suspended (ne_suspended_of_inContact hs)))

/-- 1 for the word of a retry command, else 0. -/
def retryCount (r : Request) : Nat :=
  if r.word = encode .nackReceived ∨ r.word = encode .ackTimeout then 1 else 0

theorem retryCount_of_isRetry {r : Request} (h : IsRetry r) : retryCount r = 1 := if_pos ((isRetry_iff r).mp h)

theorem retryCount_of_not_isRetry {r : Request} (h : ¬ IsRetry r) : retryCount r = 0 :=
  if_neg fun hword => h ((isRetry_iff r).mpr hword)

/-- How many of the commands are retry commands. -/
def retryTotal (cmds : List (Agent × Request)) : Nat :=
  (cmds.filter fun x => x.2.word = encode .nackReceived ∨ x.2.word = encode .ackTimeout).length

theorem retryTotal_cons (x : Agent × Request) (xs : List (Agent × Request)) :
    retryTotal (x :: xs) = retryCount x.2 + retryTotal xs := by
  unfold retryTotal retryCount
  rw [List.filter_cons]
  by_cases h : x.2.word = encode .nackReceived ∨ x.2.word = encode .ackTimeout
  · simp [h, Nat.add_comm]
  · simp [h]

/-- One command, in contact and below the ceiling: the counter rises by 1 for a retry and by 0 otherwise. -/
theorem requestResult_counts {r : Request} {b : Block} (hs : inContact b.state = true) (hc : Consecutive r.word)
    (hcease : decode r.word ≠ .ok .ceaseTransmission)
    (hmax : b.retry.toNat + retryCount r ≤ Config.chosen.retryMax) :
    (requestResult r b).1.retry.toNat = b.retry.toNat + retryCount r ∧ (requestResult r b).1.state = b.state ∧
    (requestResult r b).2.status ≠ .retryExhausted := by
  by_cases hretry : IsRetry r
  · rw [retryCount_of_isRetry hretry] at hmax ⊢
    rw [requestResult_of_isRetry hretry, retryStep_of_allowed hs hmax]
    exact ⟨retry_add_one_toNat hmax, rfl, by simp⟩
  · rw [retryCount_of_not_isRetry hretry]
    obtain ⟨hex, hcount, -⟩ := requestResult_of_not_isRetry (b := b) hretry hc
    exact ⟨congrArg BitVec.toNat hcount, requestResult_state_of_not_isRetry hretry hc hcease hs, hex⟩

/-- Commands in contact that stay below the ceiling are all answered without exhaustion. -/
theorem run_below_ceiling (cmds : List (Agent × Request)) {s : State} (hs : inContact s.block.state = true)
    (hc : ∀ x ∈ cmds, Consecutive x.2.word ∧ decode x.2.word ≠ .ok .ceaseTransmission)
    (hmax : s.block.retry.toNat + retryTotal cmds ≤ Config.chosen.retryMax) :
    ∃ t : State,
      Host.Core.run Sys2Proof.core cmds.length (s.withSchedule (cmds.map fun x => .command x.1 x.2)) = .next t ∧
      t.block.retry.toNat = s.block.retry.toNat + retryTotal cmds ∧ t.block.state = s.block.state ∧
      ∀ x ∈ t.host.responses, x ∈ s.host.responses ∨ x.2.status ≠ .retryExhausted := by
  induction cmds generalizing s with
  | nil => exact ⟨s.withSchedule [], rfl, rfl, rfl, fun x hx => .inl hx⟩
  | cons x xs ih =>
    obtain ⟨⟨hx, hcease⟩, hxs⟩ := List.forall_mem_cons.mp hc
    rw [retryTotal_cons] at hmax ⊢
    obtain ⟨hcount, hstate, hex⟩ := requestResult_counts hs hx hcease (by omega)
    obtain ⟨t, hrun, hretry, hlast, hresponses⟩ := ih (s := afterCommand x.1 x.2 s)
      (by rw [afterCommand_block, hstate, hs]) hxs (by rw [afterCommand_block, hcount]; omega)
    refine ⟨t, ?_, ?_, ?_, fun y hy => ?_⟩
    · rw [List.length_cons, List.map_cons, run_succ (step_scheduled _ _ _ _), hrun]
    · rw [hretry, afterCommand_block, hcount]
      omega
    · rw [hlast, afterCommand_block, hstate]
    · rcases hresponses y hy with hmem | hne
      · rw [afterCommand_responses] at hmem
        rcases List.mem_cons.mp hmem with rfl | hold
        · exact .inr hex
        · exact .inl hold
      · exact .inr hne

/-- Settles O41: retransmissions against retries and against the credit, the counter along a run, the run below the
ceiling, and RETRY_STEP at the ceiling. -/
theorem retryCeiling : Obligations.RetryCeiling := by
  refine ⟨fun s u l hrun hc => ⟨?_, ?_, fun hex => runsBy_counts_retries hrun hc hex⟩,
    fun s cmds k hs hc hk hmax => ?_, fun s hs hretry => ?_⟩
  · exact (Nat.le_add_left _ _).trans (runsBy_retransmits_le_retries hrun hc)
  · have hcredit := runsBy_retransmits_le_credit hrun hc
    have hle : s.block.credit Config.chosen ≤ (Config.chosen.retryMax - s.block.retry.toNat) + s.block.due := by
      unfold Block.credit
      split <;> omega
    exact (Nat.le_add_left _ _).trans (hcredit.trans hle)
  · subst hk
    exact run_below_ceiling cmds ((inContact_iff _).mpr hs) hc hmax
  · have hex := retryStep_of_exhausted (c := Config.chosen) (b := s.block) ((inContact_iff _).mpr hs) (by omega)
    exact ⟨exec_of_result hex, exec_of_result hex⟩

end Sys2Proof.Machine
end

section
/-! Error detection by the checksum (40_codec.md R101). The register is fed bit by bit; its shift is linear and loses
nothing, so two byte strings have one checksum exactly if the register fed with their differing bits returns to 0, and a
burst of at most 32 bits does not return it there. -/

namespace Sys2Proof.Machine

/-! ### The shift of the register -/

theorem crcShift_zero : crcShift 0#32 = 0#32 := by decide

/-- The shift is linear: the polynomial is added for each argument that shifts a 1 out, and twice is not at all. -/
theorem crcShift_xor (x y : U32) : crcShift (x ^^^ y) = crcShift x ^^^ crcShift y := by
  have hcancel : ∀ u v P : U32, u ^^^ P ^^^ (v ^^^ P) = u ^^^ v := fun u v P => by
    rw [BitVec.xor_assoc, BitVec.xor_comm v P, ← BitVec.xor_assoc P, BitVec.xor_self, BitVec.zero_xor]
  unfold crcShift
  rw [BitVec.getLsbD_xor, BitVec.ushiftRight_xor_distrib]
  cases x.getLsbD 0 <;> cases y.getLsbD 0
  · simp
  · simp [BitVec.xor_assoc]
  · simp [BitVec.xor_assoc, BitVec.xor_comm (y >>> 1)]
  · simp [hcancel]

/-- The shift loses nothing: the polynomial's top bit shows that it was added, and the bit shifted out with it. -/
theorem eq_zero_of_crcShift {x : U32} (h : crcShift x = 0#32) : x = 0#32 := by
  unfold crcShift at h
  cases hout : x.getLsbD 0 with
  | true =>
    rw [if_pos hout] at h
    have htop := congrArg (BitVec.getLsbD · 31) h
    simp at htop
  | false =>
    rw [if_neg (by rw [hout]; decide)] at h
    refine BitVec.eq_of_getLsbD_eq fun i _ => ?_
    cases i with
    | zero => exact hout.trans BitVec.getLsbD_zero.symm
    | succ i => simpa [Nat.add_comm] using congrArg (BitVec.getLsbD · i) h

/-- A shift that shifts no 1 out moves every bit down. -/
theorem crcShift_shiftLeft_one {x : U32} (h : x.getLsbD 31 = false) : crcShift (x <<< 1) = x := by
  unfold crcShift
  rw [if_neg (by simp)]
  refine BitVec.eq_of_getLsbD_eq fun i hi => ?_
  rw [BitVec.getLsbD_ushiftRight, BitVec.getLsbD_shiftLeft, Nat.add_sub_cancel_left]
  by_cases hlast : i = 31
  · rw [hlast, h]
    rfl
  · rw [decide_eq_true (by omega), decide_eq_false (by omega)]
    rfl

theorem crcShifts_zero (n : Nat) : crcShifts n 0#32 = 0#32 := by
  induction n with
  | zero => rfl
  | succ n ih => rw [crcShifts, crcShift_zero, ih]

theorem eq_zero_of_crcShifts {n : Nat} {x : U32} (h : crcShifts n x = 0#32) : x = 0#32 := by
  induction n generalizing x with
  | zero => exact h
  | succ n ih => exact eq_zero_of_crcShift (ih h)

/-! ### The register fed with bits -/

/-- Bits as a word, the first one lowest; what lies beyond 32 bits is dropped. -/
def wordOfBits (w : List Bool) : U32 := (BitVec.ofBoolListLE w).setWidth 32

theorem getLsbD_wordOfBits (w : List Bool) (i : Nat) :
    (wordOfBits w).getLsbD i = (decide (i < 32) && w.getD i false) := by
  rw [wordOfBits, BitVec.getLsbD_setWidth, BitVec.getLsbD_ofBoolListLE]

theorem wordOfBits_cons (x : Bool) (w : List Bool) : wordOfBits (x :: w) = wordOfBits [x] ^^^ wordOfBits w <<< 1 := by
  refine BitVec.eq_of_getLsbD_eq fun i hi => ?_
  rw [BitVec.getLsbD_xor, BitVec.getLsbD_shiftLeft]
  simp only [getLsbD_wordOfBits, hi]
  cases i with
  | zero => simp
  | succ i => simp [show i < 32 by omega]

/-- The register `c` after the bits, each added to the lowest bit before a shift. -/
def crcBits (c : U32) (bits : List Bool) : U32 := bits.foldl (fun c x => crcShift (c ^^^ wordOfBits [x])) c

theorem crcBits_cons (c : U32) (x : Bool) (bits : List Bool) :
    crcBits c (x :: bits) = crcBits (crcShift (c ^^^ wordOfBits [x])) bits := rfl

theorem crcBits_append (c : U32) (u v : List Bool) : crcBits c (u ++ v) = crcBits (crcBits c u) v :=
  List.foldl_append

/-- At most 32 bits may as well be added at once, as one word. -/
theorem crcBits_eq_crcShifts (c : U32) {w : List Bool} (h : w.length ≤ 32) :
    crcBits c w = crcShifts w.length (c ^^^ wordOfBits w) := by
  induction w generalizing c with
  | nil =>
    have hzero : wordOfBits [] = 0#32 := by decide
    rw [hzero, BitVec.xor_zero]
    rfl
  | cons x w ih =>
    rw [List.length_cons] at h
    have htop : (wordOfBits w).getLsbD 31 = false := by
      rw [getLsbD_wordOfBits, List.getD_eq_default _ _ (by omega), Bool.and_false]
    rw [crcBits_cons, ih _ (by omega), List.length_cons, crcShifts, wordOfBits_cons x w, ← BitVec.xor_assoc,
      crcShift_xor _ (wordOfBits w <<< 1), crcShift_shiftLeft_one htop]

theorem crcBits_of_no_bit (c : U32) {w : List Bool} (h : ∀ x ∈ w, x = false) :
    crcBits c w = crcShifts w.length c := by
  induction w generalizing c with
  | nil => rfl
  | cons x w ih =>
    obtain ⟨rfl, hw⟩ := List.forall_mem_cons.mp h
    have hzero : wordOfBits [false] = 0#32 := by decide
    rw [crcBits_cons, hzero, BitVec.xor_zero, ih _ hw, List.length_cons, crcShifts]

/-- The register is linear in its start and the bits together. -/
theorem crcBits_xor (c c' : U32) {u v : List Bool} (h : u.length = v.length) :
    crcBits c u ^^^ crcBits c' v = crcBits (c ^^^ c') (List.zipWith xor u v) := by
  have hbit : ∀ x y : Bool, wordOfBits [x ^^ y] = wordOfBits [x] ^^^ wordOfBits [y] := by decide
  induction u generalizing c c' v with
  | nil =>
    obtain rfl := List.length_eq_zero_iff.mp h.symm
    rfl
  | cons x u ih =>
    cases v with
    | nil => cases h
    | cons y v =>
      have hsum : c ^^^ wordOfBits [x] ^^^ (c' ^^^ wordOfBits [y]) = c ^^^ c' ^^^ wordOfBits [x ^^ y] := by
        rw [hbit]
        ac_rfl
      rw [crcBits_cons, crcBits_cons, ih _ _ (Nat.succ.inj h), ← crcShift_xor, hsum, List.zipWith_cons_cons,
        crcBits_cons]

section
variable {p : Nat} {w : List Bool}

/-- Bits that are 0 outside a window return the register to 0 only if the window's word is 0: before the window the
register stays 0, and after it nothing is lost. -/
theorem wordOfBits_eq_zero_of_crcBits (h : crcBits 0#32 w = 0#32)
    (hout : ∀ q, ¬ (p ≤ q ∧ q < p + 32) → w.getD q false = false) : wordOfBits ((w.drop p).take 32) = 0#32 := by
  have hbefore : ∀ x ∈ w.take p, x = false := fun x hx => by
    obtain ⟨i, hi, rfl⟩ := List.getElem_of_mem hx
    rw [List.length_take] at hi
    have hzero := hout i (by omega)
    rwa [List.getD_eq_getElem _ _ (by omega), ← List.getElem_take] at hzero
  have hafter : ∀ x ∈ (w.drop p).drop 32, x = false := fun x hx => by
    rw [List.drop_drop] at hx
    obtain ⟨i, hi, rfl⟩ := List.getElem_of_mem hx
    rw [List.length_drop] at hi
    have hzero := hout (p + 32 + i) (by omega)
    rwa [List.getD_eq_getElem _ _ (by omega), ← List.getElem_drop] at hzero
  have hsplit : w = w.take p ++ ((w.drop p).take 32 ++ (w.drop p).drop 32) := by
    rw [List.take_append_drop, List.take_append_drop]
  rw [hsplit, crcBits_append, crcBits_append, crcBits_of_no_bit _ hbefore, crcShifts_zero,
    crcBits_eq_crcShifts _ (List.length_take_le 32 _), BitVec.zero_xor, crcBits_of_no_bit _ hafter] at h
  exact eq_zero_of_crcShifts (eq_zero_of_crcShifts h)

/-- A burst: bits that are 0 but within 32 of them do not return the register to 0. -/
theorem eq_false_of_crcBits (h : crcBits 0#32 w = 0#32)
    (hout : ∀ q, ¬ (p ≤ q ∧ q < p + 32) → w.getD q false = false) (q : Nat) : w.getD q false = false := by
  by_cases hq : p ≤ q ∧ q < p + 32
  · obtain ⟨hp, hlt⟩ := hq
    have hbit := congrArg (BitVec.getLsbD · (q - p)) (wordOfBits_eq_zero_of_crcBits h hout)
    have hget : ((w.drop p).take 32).getD (q - p) false = w.getD q false := by
      simp [List.getD_eq_getElem?_getD, List.getElem?_drop, show q - p < 32 by omega, show p + (q - p) = q by omega]
    simpa only [getLsbD_wordOfBits, hget, show q - p < 32 by omega, decide_true, Bool.true_and,
      BitVec.getLsbD_zero] using hbit
  · exact hout q hq

end

/-! ### The bits of a byte string (30_encoding.md R72) -/

/-- The bits of a byte, the least significant first. -/
def byteBits (x : Byte) : List Bool := (List.range 8).map x.getLsbD

/-- The bits of a byte string in the order in which the register takes them. -/
def bitsOf (A : ByteString) : List Bool := A.flatMap byteBits

theorem byteBits_length (x : Byte) : (byteBits x).length = 8 := by simp [byteBits]

theorem byteBits_getD {x : Byte} {i : Nat} (h : i < 8) : (byteBits x).getD i false = x.getLsbD i := by
  simp [byteBits, List.getD_eq_getElem?_getD, h]

theorem bitsOf_length (A : ByteString) : (bitsOf A).length = 8 * A.length := by
  simp [bitsOf, byteBits_length, Nat.mul_comm]

theorem bitsOf_getD (A : ByteString) (q : Nat) : (bitsOf A).getD q false = bitAt A q := by
  induction A generalizing q with
  | nil => simp [bitsOf, bitAt, byteAt]
  | cons x A ih =>
    have hcons : bitsOf (x :: A) = byteBits x ++ bitsOf A := rfl
    rw [hcons]
    by_cases hq : q < 8
    · rw [List.getD_append _ _ _ _ (by rwa [byteBits_length]), byteBits_getD hq, bitAt, Nat.div_eq_of_lt hq,
        Nat.mod_eq_of_lt hq]
      rfl
    · rw [List.getD_append_right _ _ _ _ (by rw [byteBits_length]; omega), byteBits_length, ih, bitAt, bitAt,
        show q / 8 = (q - 8) / 8 + 1 by omega, show q % 8 = (q - 8) % 8 by omega]
      rfl

theorem wordOfBits_byteBits (x : Byte) : wordOfBits (byteBits x) = x.setWidth 32 := by
  refine BitVec.eq_of_getLsbD_eq fun i hi => ?_
  rw [getLsbD_wordOfBits, BitVec.getLsbD_setWidth]
  by_cases hlow : i < 8
  · rw [byteBits_getD hlow]
  · rw [List.getD_eq_default _ _ (by rw [byteBits_length]; omega), BitVec.getLsbD_of_ge x i (by omega)]

/-- R100's loop body is eight bits fed. -/
theorem crcByte_eq_crcBits (c : U32) (x : Byte) : crcByte c x = crcBits c (byteBits x) := by
  rw [crcBits_eq_crcShifts c (by rw [byteBits_length]; decide), wordOfBits_byteBits, byteBits_length, crcByte]

theorem foldl_crcByte_eq_crcBits (c : U32) (A : ByteString) : A.foldl crcByte c = crcBits c (bitsOf A) := by
  induction A generalizing c with
  | nil => rfl
  | cons x A ih =>
    have hcons : bitsOf (x :: A) = byteBits x ++ bitsOf A := rfl
    rw [List.foldl_cons, ih, crcByte_eq_crcBits, hcons, crcBits_append]

/-- Byte strings of one length are the same if their bits are. -/
theorem eq_of_bitAt_eq {A B : ByteString} (hlen : A.length = B.length) (h : ∀ q, bitAt A q = bitAt B q) : A = B := by
  refine List.ext_getElem hlen fun i hA hB => BitVec.eq_of_getLsbD_eq fun j hj => ?_
  have hbit := h (8 * i + j)
  simpa [bitAt, byteAt, show (8 * i + j) / 8 = i by omega, show (8 * i + j) % 8 = j by omega, hA, hB] using hbit

/-! ### Error detection (R101) -/

section
variable {A B : ByteString}

/-- The bits in which two byte strings differ. -/
theorem zipWith_xor_bitsOf_getD (hlen : A.length = B.length) (q : Nat) :
    (List.zipWith xor (bitsOf A) (bitsOf B)).getD q false = (bitAt A q ^^ bitAt B q) := by
  have hbits : (bitsOf A).length = (bitsOf B).length := by rw [bitsOf_length, bitsOf_length, hlen]
  rw [← bitsOf_getD, ← bitsOf_getD]
  by_cases hq : q < (bitsOf A).length
  · simp [List.getD_eq_getElem?_getD, hq, hbits ▸ hq]
  · rw [List.getD_eq_default _ _ (by rw [List.length_zipWith]; omega), List.getD_eq_default _ _ (by omega),
      List.getD_eq_default _ _ (by omega), Bool.xor_false]

/-- Byte strings of one length have one checksum only if the bits in which they differ return the register to 0. -/
theorem crcBits_diff_eq_zero (hlen : A.length = B.length) (h : crc32 A = crc32 B) :
    crcBits 0#32 (List.zipWith xor (bitsOf A) (bitsOf B)) = 0#32 := by
  have hreg : crcBits 0xFFFFFFFF#32 (bitsOf A) = crcBits 0xFFFFFFFF#32 (bitsOf B) := by
    rw [← foldl_crcByte_eq_crcBits, ← foldl_crcByte_eq_crcBits]
    exact (BitVec.xor_left_inj _).mp h
  have hxor := crcBits_xor 0xFFFFFFFF#32 0xFFFFFFFF#32
    (show (bitsOf A).length = (bitsOf B).length by rw [bitsOf_length, bitsOf_length, hlen])
  rwa [hreg, BitVec.xor_self, BitVec.xor_self, eq_comm] at hxor

/-- Byte strings with one checksum and one length, whose differing bits lie within 32, do not differ. -/
theorem eq_of_crc32_eq {p : Nat} (hlen : A.length = B.length) (h : crc32 A = crc32 B)
    (hburst : ∀ q, bitAt A q ≠ bitAt B q → p ≤ q ∧ q < p + 32) : A = B := by
  refine eq_of_bitAt_eq hlen fun q => ?_
  have hsame := eq_false_of_crcBits (p := p) (crcBits_diff_eq_zero hlen h) (fun q hq => ?_) q
  · rw [zipWith_xor_bitsOf_getD hlen] at hsame
    simpa using hsame
  · rw [zipWith_xor_bitsOf_getD hlen, not_not.mp fun hne => hq (hburst q hne), Bool.xor_self]

end

theorem flipBit_length (A : ByteString) (p : Nat) : (flipBit A p).length = A.length := List.length_modify ..

/-- A flip changes the one bit. -/
theorem bitAt_flipBit {A : ByteString} {p : Nat} (hp : p < 8 * A.length) (q : Nat) :
    bitAt (flipBit A p) q = (bitAt A q ^^ decide (q = p)) := by
  have hbyte : byteAt (flipBit A p) (q / 8) =
      if q / 8 = p / 8 then byteAt A (q / 8) ^^^ 1#8 <<< (p % 8) else byteAt A (q / 8) := by
    by_cases hq : q / 8 < A.length
    · simp [byteAt, flipBit, List.getElem_modify, hq, eq_comm]
    · rw [if_neg (by omega), byteAt, byteAt, List.getD_eq_default _ _ (by rw [flipBit_length]; omega),
        List.getD_eq_default _ _ (by omega)]
  rw [bitAt, hbyte, bitAt]
  by_cases hsame : q / 8 = p / 8
  · have hbit : (1#8 <<< (p % 8)).getLsbD (q % 8) = decide (q = p) := by
      rw [← BitVec.twoPow_eq, BitVec.getLsbD_twoPow]
      simp [show p % 8 < 8 by omega, show p % 8 = q % 8 ↔ q = p by omega]
    rw [if_pos hsame, BitVec.getLsbD_xor, hbit]
  · have hne : q ≠ p := fun heq => hsame (by rw [heq])
    rw [if_neg hsame, decide_eq_false hne, Bool.xor_false]

theorem flipBit_ne {A : ByteString} {p : Nat} (hp : p < 8 * A.length) : flipBit A p ≠ A := fun heq => by
  have hbit := bitAt_flipBit hp p
  rw [heq] at hbit
  simp at hbit

/-- A single flipped bit changes the checksum. -/
theorem crc32_flipBit_ne {A : ByteString} {p : Nat} (hp : p < 8 * A.length) : crc32 (flipBit A p) ≠ crc32 A := by
  intro h
  refine flipBit_ne hp (eq_of_crc32_eq (p := p) (flipBit_length A p) h fun q hq => ?_)
  rw [bitAt_flipBit hp q] at hq
  have heq : q = p := by
    by_contra hne
    simp [hne] at hq
  omega

/-- R101's check value for a zero byte. -/
theorem crc32_zero_byte : crc32 [0x00#8] = 0xD202EF8D#32 := by decide +kernel

/-- R101's check value for no byte. -/
theorem crc32_empty : crc32 [] = 0x00000000#32 := by decide

/-- Settles O16: the check values, and a burst as the difference of two byte strings. -/
theorem checksumDetectsBursts : Obligations.ChecksumDetectsBursts :=
  ⟨crc32_check_value, crc32_empty, crc32_zero_byte, fun _ _ hp => crc32_flipBit_ne hp,
    fun _ _ _ hlen hne hburst heq => hne (eq_of_crc32_eq hlen heq hburst)⟩

end Sys2Proof.Machine
end

section
/-! Single-bit errors (40_codec.md R114): a frame with any values in its header fields, what PARSE answers to it, and
the field that a flipped bit falls into. -/

namespace Sys2Proof.Machine

/-! ### Where a flipped bit falls -/

theorem byteAt_append_left {A : ByteString} (B : ByteString) {i : Nat} (h : i < A.length) :
    byteAt (A ++ B) i = byteAt A i := by
  rw [byteAt, List.getD_append _ _ _ _ h, byteAt]

theorem bitAt_append_left {A : ByteString} (B : ByteString) {q : Nat} (h : q < 8 * A.length) :
    bitAt (A ++ B) q = bitAt A q := by
  rw [bitAt, byteAt_append_left B (by omega), bitAt]

theorem bitAt_append_right (A B : ByteString) (q : Nat) : bitAt (A ++ B) (8 * A.length + q) = bitAt B q := by
  rw [bitAt, show (8 * A.length + q) / 8 = A.length + q / 8 by omega, byteAt_append_right,
    show (8 * A.length + q) % 8 = q % 8 by omega, bitAt]

theorem flipBit_append_left {A : ByteString} (B : ByteString) {p : Nat} (hp : p < 8 * A.length) :
    flipBit (A ++ B) p = flipBit A p ++ B := by
  have hlen : p < 8 * (A ++ B).length := by rw [List.length_append]; omega
  refine eq_of_bitAt_eq (by simp only [flipBit_length, List.length_append]) fun q => ?_
  rw [bitAt_flipBit hlen]
  by_cases hq : q < 8 * A.length
  · rw [bitAt_append_left B hq, bitAt_append_left B (by rwa [flipBit_length]), bitAt_flipBit hp]
  · obtain ⟨j, rfl⟩ := Nat.exists_eq_add_of_le (Nat.le_of_not_lt hq)
    have hright := bitAt_append_right (flipBit A p) B j
    rw [flipBit_length] at hright
    rw [bitAt_append_right, hright, decide_eq_false (by omega), Bool.xor_false]

theorem flipBit_append_right {A B : ByteString} {k p : Nat} (hk : 8 * A.length = k) (hp : p < 8 * B.length) :
    flipBit (A ++ B) (k + p) = A ++ flipBit B p := by
  subst hk
  have hlen : 8 * A.length + p < 8 * (A ++ B).length := by rw [List.length_append]; omega
  refine eq_of_bitAt_eq (by simp only [flipBit_length, List.length_append]) fun q => ?_
  rw [bitAt_flipBit hlen]
  by_cases hq : q < 8 * A.length
  · rw [bitAt_append_left B hq, bitAt_append_left _ hq, decide_eq_false (by omega), Bool.xor_false]
  · obtain ⟨j, rfl⟩ := Nat.exists_eq_add_of_le (Nat.le_of_not_lt hq)
    rw [bitAt_append_right, bitAt_append_right, bitAt_flipBit hp]
    simp

/-! ### The bits of a field (R72) -/

theorem getLsbD_xor_one_shiftLeft {n p : Nat} (v : BitVec n) (hp : p < n) (q : Nat) :
    (v ^^^ 1#n <<< p).getLsbD q = (v.getLsbD q ^^ decide (q = p)) := by
  rw [BitVec.getLsbD_xor, ← BitVec.twoPow_eq, BitVec.getLsbD_twoPow, decide_eq_true hp, Bool.true_and,
    decide_eq_decide.mpr eq_comm]

theorem xor_one_shiftLeft_ne {n p : Nat} (v : BitVec n) (hp : p < n) : v ^^^ 1#n <<< p ≠ v := fun heq => by
  have hbit := getLsbD_xor_one_shiftLeft v hp p
  rw [heq] at hbit
  simp at hbit

/-- The bits of a byte string that starts with some bits of `v` and goes on with the rest of them. -/
theorem bitAt_extractLsb'_cons {n : Nat} {v : BitVec n} {k : Nat} {B : ByteString}
    (h : ∀ q, bitAt B q = v.getLsbD (k + 8 + q)) (q : Nat) :
    bitAt (v.extractLsb' k 8 :: B) q = v.getLsbD (k + q) := by
  have hcons : v.extractLsb' k 8 :: B = [v.extractLsb' k 8] ++ B := rfl
  rw [hcons]
  by_cases hq : q < 8
  · rw [bitAt_append_left B (by simpa using hq), bitAt, Nat.div_eq_of_lt hq, Nat.mod_eq_of_lt hq]
    simp [byteAt, hq]
  · obtain ⟨j, rfl⟩ := Nat.exists_eq_add_of_le (Nat.le_of_not_lt hq)
    have hright := bitAt_append_right [v.extractLsb' k 8] B j
    rw [List.length_singleton] at hright
    rw [hright, h, Nat.add_assoc]

theorem bitAt_nil (q : Nat) : bitAt [] q = false := by simp [bitAt, byteAt]

theorem bitAt_le16 (v : U16) (q : Nat) : bitAt (le16 v) q = v.getLsbD q := by
  have hend : ∀ q, bitAt [] q = v.getLsbD (16 + q) := fun q => by
    rw [bitAt_nil, BitVec.getLsbD_of_ge v _ (by omega)]
  rw [le16, bitAt_extractLsb'_cons (k := 0) (bitAt_extractLsb'_cons (k := 8) hend), Nat.zero_add]

theorem bitAt_le32 (v : U32) (q : Nat) : bitAt (le32 v) q = v.getLsbD q := by
  have hend : ∀ q, bitAt [] q = v.getLsbD (32 + q) := fun q => by
    rw [bitAt_nil, BitVec.getLsbD_of_ge v _ (by omega)]
  rw [le32, bitAt_extractLsb'_cons (k := 0) (bitAt_extractLsb'_cons (k := 8) (bitAt_extractLsb'_cons (k := 16)
    (bitAt_extractLsb'_cons (k := 24) hend))), Nat.zero_add]

theorem flipBit_le16 (v : U16) {p : Nat} (hp : p < 16) : flipBit (le16 v) p = le16 (v ^^^ 1#16 <<< p) := by
  refine eq_of_bitAt_eq (flipBit_length _ _) fun q => ?_
  rw [bitAt_flipBit hp, bitAt_le16, bitAt_le16, getLsbD_xor_one_shiftLeft v hp]

theorem flipBit_le32 (v : U32) {p : Nat} (hp : p < 32) : flipBit (le32 v) p = le32 (v ^^^ 1#32 <<< p) := by
  refine eq_of_bitAt_eq (flipBit_length _ _) fun q => ?_
  rw [bitAt_flipBit hp, bitAt_le32, bitAt_le32, getLsbD_xor_one_shiftLeft v hp]

/-! ### A frame with any header -/

/-- The layout of R72 with any values in the header's fields. -/
def rawFrame (pre sum : U32) (topic tag : U16) (B : ByteString) : ByteString :=
  le32 pre ++ (le32 sum ++ (le16 topic ++ (le16 tag ++ B)))

theorem wrap_eq_rawFrame (c : Config) (tag : U16) (B : ByteString) :
    wrap c tag B = rawFrame c.preamble (crc32 B) (c.topicOf tag) tag B := wrap_eq_header_append c tag B

section
variable {pre sum : U32} {topic tag : U16} {B : ByteString}

theorem rawFrame_length : (rawFrame pre sum topic tag B).length = headerSize + B.length := by
  simp [rawFrame, headerSize]
  omega

theorem rdLe32_rawFrame_preamble : rdLe32 (rawFrame pre sum topic tag B) 0 = pre := rdLe32_le32 _ _

theorem rdLe32_rawFrame_checksum : rdLe32 (rawFrame pre sum topic tag B) 4 = sum :=
  (rdLe32_append_right (le32 pre) _ 0).trans (rdLe32_le32 _ _)

theorem rdLe16_rawFrame_topic : rdLe16 (rawFrame pre sum topic tag B) 8 = topic :=
  (rdLe16_append_right (le32 pre) _ 4).trans ((rdLe16_append_right (le32 sum) _ 0).trans (rdLe16_le16 _ _))

theorem rdLe16_rawFrame_tag : rdLe16 (rawFrame pre sum topic tag B) 10 = tag :=
  (rdLe16_append_right (le32 pre) _ 6).trans ((rdLe16_append_right (le32 sum) _ 2).trans
    ((rdLe16_append_right (le16 topic) _ 0).trans (rdLe16_le16 _ _)))

theorem payloadOf_rawFrame : payloadOf (rawFrame pre sum topic tag B) = B := rfl

/-- PARSE checks the preamble and the checksum and returns the rest (R110). -/
theorem runParse_rawFrame {c : Config} {b : Block} (hB : B.length ≤ c.maxFrameSize) :
    runParse c (some (rawFrame pre sum topic tag B)) b =
      if pre ≠ c.preamble then (b, Response.of .malformedHeader)
      else if sum ≠ crc32 B then (b, Response.of .checksumMismatch)
      else (b, { status := .ok, out := B, topic := topic, tag := tag, value := 0#32 }) := by
  rw [runParse_of_length c b (by rw [rawFrame_length]; omega) (by rw [rawFrame_length]; omega),
    rdLe32_rawFrame_preamble, rdLe32_rawFrame_checksum, rdLe16_rawFrame_topic, rdLe16_rawFrame_tag,
    payloadOf_rawFrame]

variable {p : Nat}

theorem flipBit_rawFrame_preamble (hp : p < 32) :
    flipBit (rawFrame pre sum topic tag B) p = rawFrame (pre ^^^ 1#32 <<< p) sum topic tag B := by
  rw [rawFrame, flipBit_append_left (A := le32 pre) _ hp, flipBit_le32 pre hp, rawFrame]

theorem flipBit_rawFrame_checksum (hp : p < 32) :
    flipBit (rawFrame pre sum topic tag B) (32 + p) = rawFrame pre (sum ^^^ 1#32 <<< p) topic tag B := by
  have hrest : p < 8 * (le32 sum ++ (le16 topic ++ (le16 tag ++ B))).length := by simp; omega
  rw [rawFrame, flipBit_append_right (A := le32 pre) (k := 32) rfl hrest,
    flipBit_append_left (A := le32 sum) _ hp, flipBit_le32 sum hp, rawFrame]

theorem flipBit_rawFrame_topic (hp : p < 16) :
    flipBit (rawFrame pre sum topic tag B) (64 + p) = rawFrame pre sum (topic ^^^ 1#16 <<< p) tag B := by
  have hrest : p < 8 * (le16 topic ++ (le16 tag ++ B)).length := by simp; omega
  rw [rawFrame, ← List.append_assoc, flipBit_append_right (A := le32 pre ++ le32 sum) (k := 64) rfl hrest,
    flipBit_append_left (A := le16 topic) _ hp, flipBit_le16 topic hp, rawFrame, List.append_assoc]

theorem flipBit_rawFrame_tag (hp : p < 16) :
    flipBit (rawFrame pre sum topic tag B) (80 + p) = rawFrame pre sum topic (tag ^^^ 1#16 <<< p) B := by
  have hrest : p < 8 * (le16 tag ++ B).length := by simp; omega
  rw [rawFrame, ← List.append_assoc, ← List.append_assoc,
    flipBit_append_right (A := le32 pre ++ le32 sum ++ le16 topic) (k := 80) rfl hrest,
    flipBit_append_left (A := le16 tag) _ hp, flipBit_le16 tag hp, rawFrame, List.append_assoc, List.append_assoc]

theorem flipBit_rawFrame_payload (hp : p < 8 * B.length) :
    flipBit (rawFrame pre sum topic tag B) (96 + p) = rawFrame pre sum topic tag (flipBit B p) := by
  rw [rawFrame, ← List.append_assoc, ← List.append_assoc, ← List.append_assoc,
    flipBit_append_right (A := le32 pre ++ le32 sum ++ le16 topic ++ le16 tag) (k := 96) rfl hp, rawFrame,
    List.append_assoc, List.append_assoc, List.append_assoc]

end

/-- Settles O22: the flipped bit is in the preamble or the checksum, which are checked, in the topic or the tag, which
are returned, or in the payload, whose checksum it changes. -/
theorem singleBitErrors : Obligations.SingleBitErrors := by
  intro s tag B p hB hdata
  rw [wrap_eq_rawFrame] at hdata
  refine ⟨fun hp => exec_of_result ?_, fun hmin hp => exec_of_result ?_, fun hmin hp => exec_of_result ?_,
    fun hmin hp => exec_of_result ?_, fun hmin hp => exec_of_result ?_⟩
  · rw [commandResult, hdata, flipBit_rawFrame_preamble hp, runParse_rawFrame hB, if_pos (xor_one_shiftLeft_ne _ hp)]
  · obtain ⟨j, rfl⟩ := Nat.exists_eq_add_of_le hmin
    have hj : j < 32 := by omega
    rw [commandResult, hdata, flipBit_rawFrame_checksum hj, runParse_rawFrame hB, if_neg (not_not.mpr rfl),
      if_pos (xor_one_shiftLeft_ne _ hj)]
  · obtain ⟨j, rfl⟩ := Nat.exists_eq_add_of_le hmin
    rw [commandResult, hdata, flipBit_rawFrame_topic (by omega), runParse_rawFrame hB, if_neg (not_not.mpr rfl),
      if_neg (not_not.mpr rfl), show 8 * 8 + j - 64 = j by omega]
  · obtain ⟨j, rfl⟩ := Nat.exists_eq_add_of_le hmin
    rw [commandResult, hdata, flipBit_rawFrame_tag (by omega), runParse_rawFrame hB, if_neg (not_not.mpr rfl),
      if_neg (not_not.mpr rfl), show 8 * 10 + j - 80 = j by omega]
  · obtain ⟨j, rfl⟩ := Nat.exists_eq_add_of_le hmin
    have hj : j < 8 * B.length := by omega
    rw [commandResult, hdata, flipBit_rawFrame_payload hj, runParse_rawFrame (by rwa [flipBit_length]),
      if_neg (not_not.mpr rfl), if_pos (crc32_flipBit_ne hj).symm]

end Sys2Proof.Machine
end
